-- ==== Sys2Proof/Word.lean ====
section
/-! DEFINITION. The widths of the machine (R8, R10): bytes, 16-bit words, 32-bit longs. -/
namespace Sys2Proof

/-- A byte of memory. -/
abbrev Byte := BitVec 8

/-- A 16-bit word: an instruction word, a unit-2 register. The spec's "word". -/
abbrev Half := BitVec 16

/-- A 32-bit value: a register, an address, a unit-4 register. The spec's "long". -/
abbrev Long := BitVec 32

/-- Bytes of a list laid one after another, the first the most significant (R106). -/
def bigEndian : List Byte → Nat
  | [] => 0
  | b :: rest => b.toNat * 256 ^ rest.length + bigEndian rest

end Sys2Proof
end

