-- ==== Sys2Proof/Config.lean ====
section
/-! DEFINITION. The processor roles (R12), what each unit's local memory is (R8, R43), and the open
parameters of R9 that are functions. An `opaque` constant below is an open value of the spec: no proof can
see what it is, so a claim about it holds for every choice. -/
namespace Sys2Proof

/-- The two RISC coprocessors (R2, R12). -/
inductive Coproc where
  | gpu
  | dsp
deriving DecidableEq, Repr

/-- A processor role (R12): the CPU or one of the two units. -/
inductive Role where
  | cpu
  | risc (u : Coproc)
deriving DecidableEq, Repr

/-- What an entry is taken for, the second argument of `COST_EXC` (R9, R614, R625): a CPU exception by its
vector number, or an interrupt. -/
inductive ExcKind where
  | vector (v : Byte)
  | interrupt
deriving DecidableEq, Repr

/-- The three decimal instructions, whose V flag is any value (V3, R283 to R285). -/
inductive DecimalRule where
  | abcd
  | sbcd
  | nbcd
deriving DecidableEq, Repr

namespace Config

/-- What `COST` exceeds 1 by (R9: `COST` is at least 1 and a function of the instruction words alone). -/
opaque costBeyondOne : Role → List Half → Nat

/-- `COST(role, words)` of R9, in own-clock cycles. OPEN. -/
def cost (p : Role) (words : List Half) : Nat := costBeyondOne p words + 1

/-- `COST_EXC(role, kind)` of R9. OPEN. -/
opaque costExc : Role → ExcKind → Nat

/-- `Undef(R279, inputs)`: N and Z after a `DIVU` overflow (V1). The inputs: the dividend, the divisor, the old
X N Z V C. -/
opaque undefDivu : Long → Half → BitVec 5 → Bool × Bool

/-- `Undef(R280, inputs)`: N and Z after a `DIVS` overflow (V2). Inputs as for `undefDivu`. -/
opaque undefDivs : Long → Half → BitVec 5 → Bool × Bool

/-- `Undef(R283 to R285, inputs)`: V after a decimal instruction (V3). The inputs: the source, the destination,
the old X N Z V C. -/
opaque undefDecimal : DecimalRule → Byte → Byte → BitVec 5 → Bool

/-- `Undef(R352, inputs)`: the Z, V and C that `CHK` leaves, in that order (V4). The inputs: the register word, the
bound, the old X N Z V C. -/
opaque undefChk : Half → Half → BitVec 5 → Bool × Bool × Bool

/-- `Undef(R352, inputs)`: the N that `CHK` leaves when the register is within bounds (V4). -/
opaque undefChkN : Half → Half → BitVec 5 → Bool

/-- First bus address of a unit's local memory (R8, R43, R450). -/
def localBase : Coproc → Nat
  | .gpu => 0xF03000
  | .dsp => 0xF1B000

/-- Size in bytes of a unit's local memory (R8, R43, R450). -/
def localSize : Coproc → Nat
  | .gpu => 0x1000
  | .dsp => 0x2000

/-- The fill byte of an access that reaches no readable store (R8, R104). -/
def fill : Byte := 0xFF

end Config
end Sys2Proof
end

