-- ==== Sys2Proof/Machine/State.lean ====
section
/-! DEFINITION. The state of the machine as plain data (R20), its value right after reset (R59, R703), and the
reasons a step can stop. -/
namespace Sys2Proof.Machine

/-- No step of this machine ends in a fault, so the type is empty: no memory access fails (R100), exception entry
cannot fail (R615), the CPU's errors are exceptions that are taken (R612), the RISC units have none (R629). -/
inductive Fault where
deriving DecidableEq, Repr

/-- Why a step is refused. -/
inductive Refusal where
  /-- An instruction that has no meaning yet. Raised by `exec`'s refused arms only; there is none left. Safe. -/
  | notModelled (mnemonic : String)
  /-- A taken JUMP or JR whose delay slot holds JUMP, JR or MOVEI: "the model's step function has no defined
  result" (R493, R730, F1). Raised by the delay slot of `execRJump` and `execRJr`. Safe. -/
  | jumpOrMoveiInSlot
  /-- A step while the machine is Off: "no processor steps, no event fires, and runFrame() is refused" (R705, R699,
  F2). Raised by `step`. Safe. -/
  | machineOff
deriving DecidableEq, Repr

/-- The condition codes, bits 4:0 of SR (R24). -/
structure Ccr where
  x : Bool
  n : Bool
  z : Bool
  v : Bool
  c : Bool
deriving DecidableEq, Repr

/-- The CPU status register (R24). Only the bits that exist are held: the others "read 0, writes ignored" (log 14). -/
structure StatusReg where
  /-- T, bit 15: trace. -/
  t : Bool
  /-- S, bit 13: supervisor. -/
  s : Bool
  /-- I, bits 10:8: interrupt mask. -/
  i : BitVec 3
  ccr : Ccr
deriving DecidableEq, Repr

/-- Run state of the CPU (R27). -/
inductive CpuRun where
  | running
  | stopped
  | off
deriving DecidableEq, Repr

/-- The CPU's ProcessorState (R21 to R28). A7 is `ssp` or `usp` by `sr.s` (R22). -/
structure Cpu where
  d : Vector Long 8
  a : Vector Long 7
  usp : Long
  ssp : Long
  pc : Long
  sr : StatusReg
  run : CpuRun
  cycles : Nat
deriving DecidableEq, Repr

/-- What the ProcessorStates of the GPU and the DSP have in common (R30 to R45). -/
structure Risc where
  bank0 : Vector Long 32
  bank1 : Vector Long 32
  pc : Long
  z : Bool
  c : Bool
  n : Bool
  imask : Bool
  regpage : Bool
  dmaen : Bool
  go : Bool
  en : Bool
  singleStep : Bool
  busHog : Bool
  /-- MTXC bits 3:0. -/
  mtxWidth : BitVec 4
  /-- MTXC bit 4. -/
  matCol : Bool
  /-- MTXA bits 11:2. -/
  mtxa : BitVec 10
  /-- The END register (R38). -/
  endian : Long
  remain : Long
  divOffset : Bool
  cycles : Nat
deriving DecidableEq, Repr

/-- An InterruptLine (R50). -/
structure Line where
  enabled : Bool
  pending : Bool
deriving DecidableEq, Repr

/-- The GPU: the common part, HIDATA (R39), its 32-bit accumulator (R42) and its five lines (R51). -/
structure Gpu where
  core : Risc
  hidata : Long
  acc : BitVec 32
  lines : Vector Line 5
deriving DecidableEq, Repr

/-- The DSP: the common part, MOD (R40), its 40-bit accumulator (R42) and its six lines (R51). -/
structure Dsp where
  core : Risc
  modulo : Long
  acc : BitVec 40
  lines : Vector Line 6
deriving DecidableEq, Repr

/-- Memory content: the bytes that differ from what an unlisted address reads as, addresses rising
(`Memory.wf` in Memory.lean). -/
abbrev Memory := List Host.Cell

/-- An event that the scheduler tells ExtDevice (R127, R656). -/
inductive ExtEvent where
  | line (k : Nat)
  | frame
deriving DecidableEq, Repr

/-- A call of one of ExtDevice's functions with its arguments (R127). -/
inductive ExtCall where
  | read (unitAddr : Nat)
  | write (unitAddr : Nat) (value : Long)
  | tick (event : ExtEvent)
deriving DecidableEq, Repr

/-- What a function of ExtDevice does (R127): the value that `read` answers, the device's own state afterwards, the
bytes it stores in byte-array regions, in order, and the lines it raises. -/
structure ExtResponse where
  value : Long
  own : List Nat
  stores : List Host.Cell
  raises : List (Role × Nat)
deriving DecidableEq, Repr, Inhabited

/-- An ExtDevice (R9, R127): the default one, or a handler record. `handler n own` has the `n`-th of the functions
`Config.extHandler`, and `own` is its initial state (log 9). -/
inductive ExtDevice where
  | default
  | handler (n : Nat) (own : List Nat)
deriving DecidableEq, Repr

/-- The state of ExtDevice (R127): the plain storage of the default device, and the own state of a handler record. -/
structure ExtState where
  units : Memory
  own : List Nat
deriving DecidableEq, Repr

/-- The initial state of a device, to which a reset returns it (R127, R702). -/
def ExtDevice.initial : ExtDevice → ExtState
  | .default => { units := [], own := [] }
  | .handler _ own => { units := [], own := own }

/-- The scheduler's bookkeeping (R56). -/
structure Sched where
  frameClock : Nat
  tCpu : Nat
  tGpu : Nat
  tDsp : Nat
  line : Nat
  stopRequested : Bool
deriving DecidableEq, Repr

/-- The open parameters of R9 that are data, the arguments the machine is created from (R699): the numbers, and which
ExtDevice stands behind the bus (R127). The MODEL's own field: no step changes it, so a claim about every state holds
for every value of them (log 5, log 6). -/
structure Params where
  frameBudget : Nat
  lines : Nat
  divCpu : Nat
  divGpu : Nat
  divDsp : Nat
  idleCpu : Nat
  idleGpu : Nat
  idleDsp : Nat
  device : ExtDevice
deriving DecidableEq, Repr

/-- The state of the machine (R20). -/
structure State where
  cpu : Cpu
  gpu : Gpu
  dsp : Dsp
  /-- CPU lines 0 to 4 (R51). -/
  cpuLines : Vector Line 5
  /-- The line-compare register, bits 10:0 (R53). -/
  vi : BitVec 11
  mem : Memory
  ext : ExtState
  sched : Sched
  params : Params
  /-- The MODEL's own: `powerOn()` has succeeded since construction. It tells a machine that is off because it was just
  constructed from one that is off after `powerOff()` (R699, log 18). -/
  powered : Bool
  /-- The MODEL's own: the words the instruction in progress has fetched, the argument of COST (log 19). -/
  fetched : List Half
  /-- The MODEL's own: the variable `c` of R650 and R651 (log 19). -/
  stepCycles : Nat
deriving DecidableEq, Repr

namespace State

/-- A line after reset (R50). -/
def resetLine : Line := { enabled := false, pending := false }

/-- SR after reset, 0x2700 (R24, R703). -/
def resetSr : StatusReg :=
  { t := false, s := true, i := 7, ccr := { x := false, n := false, z := false, v := false, c := false } }

/-- The CPU after reset (R59), given the two longs that R703 reads. -/
def resetCpu (ssp pc : Long) : Cpu :=
  { d := Vector.replicate 8 0, a := Vector.replicate 7 0, usp := 0, ssp := ssp, pc := pc, sr := resetSr,
    run := .running, cycles := 0 }

/-- The common part of a unit after reset (R59): `pc` at the base of its local memory, BUS_HOG by unit, `en` as it
was (R45). -/
def resetRisc (pc : Long) (busHog en : Bool) : Risc :=
  { bank0 := Vector.replicate 32 0, bank1 := Vector.replicate 32 0, pc := pc, z := false, c := false, n := false,
    imask := false, regpage := false, dmaen := false, go := false, en := en, singleStep := false, busHog := busHog,
    mtxWidth := 0, matCol := false, mtxa := 0, endian := 0xFFFFFFFF, remain := 0, divOffset := false, cycles := 0 }

/-- The GPU after reset (R59). -/
def resetGpu (en : Bool) : Gpu :=
  { core := resetRisc 0x00F03000 true en, hidata := 0, acc := 0, lines := Vector.replicate 5 resetLine }

/-- The DSP after reset (R59). -/
def resetDsp (en : Bool) : Dsp :=
  { core := resetRisc 0x00F1B000 false en, modulo := 0xFFFFFFFF, acc := 0, lines := Vector.replicate 6 resetLine }

/-- The scheduler after reset (R56). -/
def resetSched : Sched :=
  { frameClock := 0, tCpu := 0, tGpu := 0, tDsp := 0, line := 0, stopRequested := false }

/-- The parameters of `State.reset`: the values the vectors of 95_test_vectors.md section 4.4 use for illustration
(T1, T3), and the default ExtDevice (R127). DESIGN CHOICE (log 5). -/
def resetParams : Params :=
  { frameBudget := 5, lines := 5, divCpu := 2, divGpu := 1, divDsp := 1, idleCpu := 1, idleGpu := 1, idleDsp := 1,
    device := .default }

/-- The machine right after reset (R59, R701 to R703): constructed with memory all zero (log 4) and nothing loaded,
then powered on. R703 reads SSP and pc from the longs at 0 and 4, which are 0 in that memory. -/
def reset : State :=
  { cpu := resetCpu 0 0, gpu := resetGpu true, dsp := resetDsp true, cpuLines := Vector.replicate 5 resetLine,
    vi := 0x7FF, mem := [], ext := resetParams.device.initial, sched := resetSched, params := resetParams,
    powered := true, fetched := [], stepCycles := 0 }

end State
end Sys2Proof.Machine

/-- The functions `read`, `write` and `tick` of ExtDevices other than the default one (R127): what the `n`-th of them
does when it is called in a state of the machine. OPEN (R9): no proof can see what it does, so a claim about `handler n`
holds for every ExtDevice (log 9). -/
opaque Sys2Proof.Config.extHandler : Nat → Sys2Proof.Machine.ExtCall → Sys2Proof.Machine.State →
  Sys2Proof.Machine.ExtResponse
end

