-- ==== Sys2Proof/Syntax.lean ====
section
/-! DEFINITION. The instructions: one constructor of `Instr` for each row of spec/opcode_table.json, in the table's
order. An `Instr` is the operation descriptor of R181: what the operation word alone says. The extension words of a
CPU instruction and the two data words of MOVEI are read by the instruction's rule (R177, R202, R231), through its
own fetches; `extWords` in WellFormed.lean says how many there are (R170). A RISC row carries the unit that runs it
(R206: decoding depends on the word and the role). -/
namespace Sys2Proof

/-- Operand sizes B, W, L (R230). -/
inductive Size where
  | b
  | w
  | l
deriving DecidableEq, Repr

/-- The sizes of MOVEM and MOVEP, which have no byte form (R175). -/
inductive LongSize where
  | w
  | l
deriving DecidableEq, Repr

/-- The twelve addressing modes of R172, as the operation word's ea field names them. -/
inductive EA where
  /-- `Dn`, mode 000. -/
  | dn (r : Fin 8)
  /-- `An`, mode 001. -/
  | an (r : Fin 8)
  /-- `(An)`, mode 010. -/
  | ind (r : Fin 8)
  /-- `(An)+`, mode 011. -/
  | postinc (r : Fin 8)
  /-- `-(An)`, mode 100. -/
  | predec (r : Fin 8)
  /-- `d16(An)`, mode 101. -/
  | disp (r : Fin 8)
  /-- `d8(An,Xi)`, mode 110. -/
  | index (r : Fin 8)
  /-- `xxx.W`, mode 111 register 000. -/
  | absW
  /-- `xxx.L`, mode 111 register 001. -/
  | absL
  /-- `d16(PC)`, mode 111 register 010. -/
  | pcDisp
  /-- `d8(PC,Xi)`, mode 111 register 011. -/
  | pcIndex
  /-- `#imm`, mode 111 register 100. -/
  | imm
deriving DecidableEq, Repr

/-- The nine effective-address classes of R176. -/
inductive EAClass where
  | all
  | data
  | dataNoImm
  | dataAlt
  | memAlt
  | alt
  | control
  | controlAltPredec
  | controlPostinc
deriving DecidableEq, Repr

/-- The sixteen CPU conditions of R182, in the order of their codes. -/
inductive Cond where
  | t
  | f
  | hi
  | ls
  | cc
  | cs
  | ne
  | eq
  | vc
  | vs
  | pl
  | mi
  | ge
  | lt
  | gt
  | le
deriving DecidableEq, Repr

/-- Direction of MOVEP, bit 7 (R175, R245). -/
inductive MovepDir where
  | memToReg
  | regToMem
deriving DecidableEq, Repr

/-- Operand form of ADDX, SUBX, ABCD, SBCD, bit 3 (R265): two data registers, or two predecremented locations. -/
inductive XMode where
  | regs
  | predec
deriving DecidableEq, Repr

/-- Where a register shift takes its count from, bit 5 and bits 11:9 (R178, R310). -/
inductive ShiftCount where
  /-- `i = 0`: the field itself, 0 meaning 8. -/
  | imm (k : BitVec 3)
  /-- `i = 1`: the data register the field names. -/
  | reg (r : Fin 8)
deriving DecidableEq, Repr

/-- The instructions of the three processors. Registers are numbers, small immediates are the bits of their field;
`m` is `f1` and `n` is `f2` of R400 where they name registers, `q` is `f1` where it is an immediate (R201). Fields a
row ignores (R205) are not kept. -/
inductive Instr where
  /-- `ORI to CCR`, R366. -/
  | oriToCcr
  /-- `ORI to SR`, R367. -/
  | oriToSr
  /-- `ANDI to CCR`, R364. -/
  | andiToCcr
  /-- `ANDI to SR`, R365. -/
  | andiToSr
  /-- `EORI to CCR`, R368. -/
  | eoriToCcr
  /-- `EORI to SR`, R369. -/
  | eoriToSr
  /-- `ORI`, R304. -/
  | ori (sz : Size) (ea : EA)
  /-- `ANDI`, R302. -/
  | andi (sz : Size) (ea : EA)
  /-- `SUBI`, R268. -/
  | subi (sz : Size) (ea : EA)
  /-- `ADDI`, R263. -/
  | addi (sz : Size) (ea : EA)
  /-- `EORI`, R306. -/
  | eori (sz : Size) (ea : EA)
  /-- `CMPI`, R273. -/
  | cmpi (sz : Size) (ea : EA)
  /-- `BTST #,ea`, R321. -/
  | btstImm (ea : EA)
  /-- `BCHG #,ea`, R322. -/
  | bchgImm (ea : EA)
  /-- `BCLR #,ea`, R323. -/
  | bclrImm (ea : EA)
  /-- `BSET #,ea`, R324. -/
  | bsetImm (ea : EA)
  /-- `MOVEP`, R245. -/
  | movep (r : Fin 8) (dir : MovepDir) (sz : LongSize) (a : Fin 8)
  /-- `BTST Dn,ea`, R321. -/
  | btstReg (r : Fin 8) (ea : EA)
  /-- `BCHG Dn,ea`, R322. -/
  | bchgReg (r : Fin 8) (ea : EA)
  /-- `BCLR Dn,ea`, R323. -/
  | bclrReg (r : Fin 8) (ea : EA)
  /-- `BSET Dn,ea`, R324. -/
  | bsetReg (r : Fin 8) (ea : EA)
  /-- `MOVEA.L`, R241. -/
  | moveaL (r : Fin 8) (ea : EA)
  /-- `MOVEA.W`, R241. -/
  | moveaW (r : Fin 8) (ea : EA)
  /-- `MOVE.B`, R240. -/
  | moveB (dst src : EA)
  /-- `MOVE.L`, R240. -/
  | moveL (dst src : EA)
  /-- `MOVE.W`, R240. -/
  | moveW (dst src : EA)
  /-- `ILLEGAL`, R353. -/
  | illegal
  /-- `RESET`, R370. -/
  | reset
  /-- `NOP`, R349. -/
  | nop
  /-- `STOP`, R371. -/
  | stop
  /-- `RTE`, R348. -/
  | rte
  /-- `RTS`, R346. -/
  | rts
  /-- `TRAPV`, R351. -/
  | trapv
  /-- `RTR`, R347. -/
  | rtr
  /-- `TRAP`, R350. -/
  | trap (v : BitVec 4)
  /-- `LINK`, R250. -/
  | link (r : Fin 8)
  /-- `UNLK`, R251. -/
  | unlk (r : Fin 8)
  /-- `MOVE An,USP`, R363. -/
  | moveAnUsp (r : Fin 8)
  /-- `MOVE USP,An`, R363. -/
  | moveUspAn (r : Fin 8)
  /-- `JSR`, R345. -/
  | jsr (ea : EA)
  /-- `JMP`, R344. -/
  | jmp (ea : EA)
  /-- `SWAP`, R249. -/
  | swap (r : Fin 8)
  /-- `PEA`, R247. -/
  | pea (ea : EA)
  /-- `EXT.W`, R277. -/
  | extW (r : Fin 8)
  /-- `EXT.L`, R277. -/
  | extL (r : Fin 8)
  /-- `MOVEM regs,ea`, R243. -/
  | movemRegsEa (sz : LongSize) (ea : EA)
  /-- `MOVEM ea,regs`, R244. -/
  | movemEaRegs (sz : LongSize) (ea : EA)
  /-- `NBCD`, R285. -/
  | nbcd (ea : EA)
  /-- `TAS`, R333. -/
  | tas (ea : EA)
  /-- `TST`, R282. -/
  | tst (sz : Size) (ea : EA)
  /-- `MOVE SR,ea`, R361. -/
  | moveSrEa (ea : EA)
  /-- `MOVE ea,CCR`, R360. -/
  | moveEaCcr (ea : EA)
  /-- `MOVE ea,SR`, R362. -/
  | moveEaSr (ea : EA)
  /-- `NEGX`, R276. -/
  | negx (sz : Size) (ea : EA)
  /-- `CLR`, R252. -/
  | clr (sz : Size) (ea : EA)
  /-- `NEG`, R275. -/
  | neg (sz : Size) (ea : EA)
  /-- `NOT`, R307. -/
  | notEa (sz : Size) (ea : EA)
  /-- `CHK`, R352. -/
  | chk (r : Fin 8) (ea : EA)
  /-- `LEA`, R246. -/
  | lea (r : Fin 8) (ea : EA)
  /-- `DBcc`, R343. -/
  | dbcc (c : Cond) (r : Fin 8)
  /-- `Scc`, R334. -/
  | scc (c : Cond) (ea : EA)
  /-- `ADDQ`, R264. -/
  | addq (q : BitVec 3) (sz : Size) (ea : EA)
  /-- `SUBQ`, R269. -/
  | subq (q : BitVec 3) (sz : Size) (ea : EA)
  /-- `BRA`, R341. -/
  | bra (disp : Byte)
  /-- `BSR`, R342. -/
  | bsr (disp : Byte)
  /-- `Bcc`, R340. -/
  | bcc (c : Cond) (disp : Byte)
  /-- `MOVEQ`, R242. -/
  | moveq (r : Fin 8) (data : Byte)
  /-- `DIVU`, R279. -/
  | divu (r : Fin 8) (ea : EA)
  /-- `DIVS`, R280. -/
  | divs (r : Fin 8) (ea : EA)
  /-- `SBCD`, R284. -/
  | sbcd (x : Fin 8) (mode : XMode) (y : Fin 8)
  /-- `OR ea,Dn`, R303. -/
  | orEaDn (r : Fin 8) (sz : Size) (ea : EA)
  /-- `OR Dn,ea`, R303. -/
  | orDnEa (r : Fin 8) (sz : Size) (ea : EA)
  /-- `SUBA.W`, R267. -/
  | subaW (r : Fin 8) (ea : EA)
  /-- `SUBA.L`, R267. -/
  | subaL (r : Fin 8) (ea : EA)
  /-- `SUBX`, R270. -/
  | subx (x : Fin 8) (sz : Size) (mode : XMode) (y : Fin 8)
  /-- `SUB ea,Dn`, R266. -/
  | subEaDn (r : Fin 8) (sz : Size) (ea : EA)
  /-- `SUB Dn,ea`, R266. -/
  | subDnEa (r : Fin 8) (sz : Size) (ea : EA)
  /-- `line A`, R354. -/
  | lineA (d : BitVec 12)
  /-- `CMPA.W`, R272. -/
  | cmpaW (r : Fin 8) (ea : EA)
  /-- `CMPA.L`, R272. -/
  | cmpaL (r : Fin 8) (ea : EA)
  /-- `CMPM`, R274. -/
  | cmpm (x : Fin 8) (sz : Size) (y : Fin 8)
  /-- `CMP`, R271. -/
  | cmp (r : Fin 8) (sz : Size) (ea : EA)
  /-- `EOR`, R305. -/
  | eor (r : Fin 8) (sz : Size) (ea : EA)
  /-- `MULU`, R278. -/
  | mulu (r : Fin 8) (ea : EA)
  /-- `MULS`, R281. -/
  | muls (r : Fin 8) (ea : EA)
  /-- `ABCD`, R283. -/
  | abcd (x : Fin 8) (mode : XMode) (y : Fin 8)
  /-- `EXG Dx,Dy`, R248. -/
  | exgDD (x y : Fin 8)
  /-- `EXG Ax,Ay`, R248. -/
  | exgAA (x y : Fin 8)
  /-- `EXG Dx,Ay`, R248. -/
  | exgDA (x y : Fin 8)
  /-- `AND ea,Dn`, R301. -/
  | andEaDn (r : Fin 8) (sz : Size) (ea : EA)
  /-- `AND Dn,ea`, R301. -/
  | andDnEa (r : Fin 8) (sz : Size) (ea : EA)
  /-- `ADDA.W`, R262. -/
  | addaW (r : Fin 8) (ea : EA)
  /-- `ADDA.L`, R262. -/
  | addaL (r : Fin 8) (ea : EA)
  /-- `ADDX`, R265. -/
  | addx (x : Fin 8) (sz : Size) (mode : XMode) (y : Fin 8)
  /-- `ADD ea,Dn`, R261. -/
  | addEaDn (r : Fin 8) (sz : Size) (ea : EA)
  /-- `ADD Dn,ea`, R261. -/
  | addDnEa (r : Fin 8) (sz : Size) (ea : EA)
  /-- `ASR ea`, R312. -/
  | asrEa (ea : EA)
  /-- `ASL ea`, R311. -/
  | aslEa (ea : EA)
  /-- `LSR ea`, R314. -/
  | lsrEa (ea : EA)
  /-- `LSL ea`, R313. -/
  | lslEa (ea : EA)
  /-- `ROXR ea`, R318. -/
  | roxrEa (ea : EA)
  /-- `ROXL ea`, R317. -/
  | roxlEa (ea : EA)
  /-- `ROR ea`, R316. -/
  | rorEa (ea : EA)
  /-- `ROL ea`, R315. -/
  | rolEa (ea : EA)
  /-- `ASR Dn`, R312. -/
  | asrDn (count : ShiftCount) (sz : Size) (r : Fin 8)
  /-- `ASL Dn`, R311. -/
  | aslDn (count : ShiftCount) (sz : Size) (r : Fin 8)
  /-- `LSR Dn`, R314. -/
  | lsrDn (count : ShiftCount) (sz : Size) (r : Fin 8)
  /-- `LSL Dn`, R313. -/
  | lslDn (count : ShiftCount) (sz : Size) (r : Fin 8)
  /-- `ROXR Dn`, R318. -/
  | roxrDn (count : ShiftCount) (sz : Size) (r : Fin 8)
  /-- `ROXL Dn`, R317. -/
  | roxlDn (count : ShiftCount) (sz : Size) (r : Fin 8)
  /-- `ROR Dn`, R316. -/
  | rorDn (count : ShiftCount) (sz : Size) (r : Fin 8)
  /-- `ROL Dn`, R315. -/
  | rolDn (count : ShiftCount) (sz : Size) (r : Fin 8)
  /-- `line F`, R355. -/
  | lineF (d : BitVec 12)
  /-- `ADD Rm,Rn`, R401. Both units. -/
  | rAdd (u : Coproc) (m n : Fin 32)
  /-- `ADDC Rm,Rn`, R402. Both units. -/
  | rAddc (u : Coproc) (m n : Fin 32)
  /-- `ADDQ #q32,Rn`, R403. Both units. -/
  | rAddq (u : Coproc) (q : BitVec 5) (n : Fin 32)
  /-- `ADDQT #q32,Rn`, R404. Both units. -/
  | rAddqt (u : Coproc) (q : BitVec 5) (n : Fin 32)
  /-- `SUB Rm,Rn`, R405. Both units. -/
  | rSub (u : Coproc) (m n : Fin 32)
  /-- `SUBC Rm,Rn`, R406. Both units. -/
  | rSubc (u : Coproc) (m n : Fin 32)
  /-- `SUBQ #q32,Rn`, R407. Both units. -/
  | rSubq (u : Coproc) (q : BitVec 5) (n : Fin 32)
  /-- `SUBQT #q32,Rn`, R408. Both units. -/
  | rSubqt (u : Coproc) (q : BitVec 5) (n : Fin 32)
  /-- `NEG Rn (f1 ignored)`, R409. Both units. -/
  | rNeg (u : Coproc) (n : Fin 32)
  /-- `AND Rm,Rn`, R410. Both units. -/
  | rAnd (u : Coproc) (m n : Fin 32)
  /-- `OR Rm,Rn`, R411. Both units. -/
  | rOr (u : Coproc) (m n : Fin 32)
  /-- `XOR Rm,Rn`, R412. Both units. -/
  | rXor (u : Coproc) (m n : Fin 32)
  /-- `NOT Rn (f1 ignored)`, R413. Both units. -/
  | rNot (u : Coproc) (n : Fin 32)
  /-- `BTST #u5,Rn`, R414. Both units. -/
  | rBtst (u : Coproc) (q : BitVec 5) (n : Fin 32)
  /-- `BSET #u5,Rn`, R415. Both units. -/
  | rBset (u : Coproc) (q : BitVec 5) (n : Fin 32)
  /-- `BCLR #u5,Rn`, R416. Both units. -/
  | rBclr (u : Coproc) (q : BitVec 5) (n : Fin 32)
  /-- `MULT Rm,Rn`, R417. Both units. -/
  | rMult (u : Coproc) (m n : Fin 32)
  /-- `IMULT Rm,Rn`, R418. Both units. -/
  | rImult (u : Coproc) (m n : Fin 32)
  /-- `IMULTN Rm,Rn`, R420. Both units. -/
  | rImultn (u : Coproc) (m n : Fin 32)
  /-- `RESMAC Rn (f1 ignored)`, R422. Both units. -/
  | rResmac (u : Coproc) (n : Fin 32)
  /-- `IMACN Rm,Rn`, R421. Both units. -/
  | rImacn (u : Coproc) (m n : Fin 32)
  /-- `DIV Rm,Rn`, R424. Both units. -/
  | rDiv (u : Coproc) (m n : Fin 32)
  /-- `ABS Rn (f1 ignored)`, R423. Both units. -/
  | rAbs (u : Coproc) (n : Fin 32)
  /-- `SH Rm,Rn`, R425. Both units. -/
  | rSh (u : Coproc) (m n : Fin 32)
  /-- `SHLQ #shl,Rn`, R426. Both units. -/
  | rShlq (u : Coproc) (q : BitVec 5) (n : Fin 32)
  /-- `SHRQ #q32,Rn`, R427. Both units. -/
  | rShrq (u : Coproc) (q : BitVec 5) (n : Fin 32)
  /-- `SHA Rm,Rn`, R428. Both units. -/
  | rSha (u : Coproc) (m n : Fin 32)
  /-- `SHARQ #q32,Rn`, R429. Both units. -/
  | rSharq (u : Coproc) (q : BitVec 5) (n : Fin 32)
  /-- `ROR Rm,Rn`, R430. Both units. -/
  | rRor (u : Coproc) (m n : Fin 32)
  /-- `RORQ #q32,Rn`, R431. Both units. -/
  | rRorq (u : Coproc) (q : BitVec 5) (n : Fin 32)
  /-- `CMP Rm,Rn`, R432. Both units. -/
  | rCmp (u : Coproc) (m n : Fin 32)
  /-- `CMPQ #s5,Rn`, R433. Both units. -/
  | rCmpq (u : Coproc) (q : BitVec 5) (n : Fin 32)
  /-- `SAT8 Rn`, R500. GPU only. -/
  | gSat8 (n : Fin 32)
  /-- `SUBQMOD #q32,Rn`, R517. DSP only. -/
  | dSubqmod (q : BitVec 5) (n : Fin 32)
  /-- `SAT16 Rn (f1 ignored)`, R501. GPU only. -/
  | gSat16 (n : Fin 32)
  /-- `SAT16S Rn (f1 ignored)`, R510. DSP only. -/
  | dSat16s (n : Fin 32)
  /-- `MOVE Rm,Rn`, R451. Both units. -/
  | rMove (u : Coproc) (m n : Fin 32)
  /-- `MOVEQ #u5,Rn`, R452. Both units. -/
  | rMoveq (u : Coproc) (q : BitVec 5) (n : Fin 32)
  /-- `MOVETA Rm,Rn`, R453. Both units. -/
  | rMoveta (u : Coproc) (m n : Fin 32)
  /-- `MOVEFA Rm,Rn`, R454. Both units. -/
  | rMovefa (u : Coproc) (m n : Fin 32)
  /-- `MOVEI #imm32,Rn (f1 ignored; two more words)`, R455. Both units. -/
  | rMovei (u : Coproc) (n : Fin 32)
  /-- `LOADB (Rm),Rn`, R458. Both units. -/
  | rLoadb (u : Coproc) (m n : Fin 32)
  /-- `LOADW (Rm),Rn`, R459. Both units. -/
  | rLoadw (u : Coproc) (m n : Fin 32)
  /-- `LOAD (Rm),Rn`, R460. Both units. -/
  | rLoad (u : Coproc) (m n : Fin 32)
  /-- `LOADP (Rm),Rn`, R462. GPU only. -/
  | gLoadp (m n : Fin 32)
  /-- `SAT32S Rn`, R515. DSP only. -/
  | dSat32s (n : Fin 32)
  /-- `LOAD (R14+q32),Rn`, R463. Both units. -/
  | rLoadR14q (u : Coproc) (q : BitVec 5) (n : Fin 32)
  /-- `LOAD (R15+q32),Rn`, R464. Both units. -/
  | rLoadR15q (u : Coproc) (q : BitVec 5) (n : Fin 32)
  /-- `STOREB Rn,(Rm)`, R465. Both units. -/
  | rStoreb (u : Coproc) (m n : Fin 32)
  /-- `STOREW Rn,(Rm)`, R466. Both units. -/
  | rStorew (u : Coproc) (m n : Fin 32)
  /-- `STORE Rn,(Rm)`, R467. Both units. -/
  | rStore (u : Coproc) (m n : Fin 32)
  /-- `STOREP Rn,(Rm)`, R468. GPU only. -/
  | gStorep (m n : Fin 32)
  /-- `MIRROR Rn`, R518. DSP only. -/
  | dMirror (n : Fin 32)
  /-- `STORE Rn,(R14+q32)`, R469. Both units. -/
  | rStoreR14q (u : Coproc) (q : BitVec 5) (n : Fin 32)
  /-- `STORE Rn,(R15+q32)`, R470. Both units. -/
  | rStoreR15q (u : Coproc) (q : BitVec 5) (n : Fin 32)
  /-- `MOVE PC PC,Rn (f1 ignored)`, R456. Both units. -/
  | rMovePc (u : Coproc) (n : Fin 32)
  /-- `JUMP cc,(Rm): f1 register, f2 condition`, R490. Both units. -/
  | rJump (u : Coproc) (m : Fin 32) (c : BitVec 5)
  /-- `JR cc,offset: f1 s5 offset, f2 condition`, R491. Both units. -/
  | rJr (u : Coproc) (q c : BitVec 5)
  /-- `MMULT Rm,Rn`, R505. Both units. -/
  | rMmult (u : Coproc) (m n : Fin 32)
  /-- `MTOI Rm,Rn`, R506. Both units. -/
  | rMtoi (u : Coproc) (m n : Fin 32)
  /-- `NORMI Rm,Rn`, R507. Both units. -/
  | rNormi (u : Coproc) (m n : Fin 32)
  /-- `NOP none (both fields ignored)`, R495. Both units. -/
  | rNop (u : Coproc)
  /-- `LOAD (R14+Rm),Rn`, R471. Both units. -/
  | rLoadR14m (u : Coproc) (m n : Fin 32)
  /-- `LOAD (R15+Rm),Rn`, R472. Both units. -/
  | rLoadR15m (u : Coproc) (m n : Fin 32)
  /-- `STORE Rn,(R14+Rm)`, R473. Both units. -/
  | rStoreR14m (u : Coproc) (m n : Fin 32)
  /-- `STORE Rn,(R15+Rm)`, R474. Both units. -/
  | rStoreR15m (u : Coproc) (m n : Fin 32)
  /-- `SAT24 Rn (f1 ignored)`, R502. GPU only. -/
  | gSat24 (n : Fin 32)
  /-- `reserved (executes as NOP) none (both fields ignored)`, R519. DSP only. -/
  | dReserved62
  /-- `PACK Rn (f1 = 0)`, R503. GPU only. -/
  | gPack (n : Fin 32)
  /-- `UNPACK Rn (f1 /= 0; the assembler uses f1 = 1)`, R504. GPU only. -/
  | gUnpack (n : Fin 32)
  /-- `ADDQMOD #q32,Rn`, R516. DSP only. -/
  | dAddqmod (q : BitVec 5) (n : Fin 32)
deriving DecidableEq, Repr

end Sys2Proof
end

