-- ==== Sys2Proof/Machine/Memory.lean ====
section
/-! DEFINITION. Memory as a list of cells in one canonical form, its byte operations, the sizes of accesses, and the
region table of the bus (R103, R105, R107, R110, R111). -/
namespace Sys2Proof

namespace Size

/-- Bits of an operand (R230). Reducible, so that a value at a fixed size is a `BitVec 8`, `16` or `32` to every tactic. -/
@[reducible] def bits : Size → Nat
  | .b => 8
  | .w => 16
  | .l => 32

/-- Bytes of an operand or an access (R100, R230). -/
@[reducible] def bytes : Size → Nat
  | .b => 1
  | .w => 2
  | .l => 4

end Size

namespace Machine
namespace Memory

/-- What an unlisted address reads as: 0, the value the spec suggests for InitMem (R9, R715). DESIGN CHOICE (log 4). -/
def unlisted : Byte := 0

/-- The byte at an address (R107). -/
def read : Memory → Nat → Byte
  | [], _ => unlisted
  | (k, v) :: rest, a => if a = k then v else read rest a

/-- Store a byte, keeping the canonical form: addresses rising, and no cell holding what an unlisted address reads
as (R107). -/
def write : Memory → Nat → Byte → Memory
  | [], a, b => if b = unlisted then [] else [(a, b)]
  | (k, v) :: rest, a, b =>
    if a < k then
      if b = unlisted then (k, v) :: rest else (a, b) :: (k, v) :: rest
    else if a = k then
      if b = unlisted then rest else (a, b) :: rest
    else (k, v) :: write rest a b

/-- Every cell lies above `low` and above the cells before it, and none holds what an unlisted address reads as. -/
def wfAbove : Nat → Memory → Bool
  | _, [] => true
  | low, (k, v) :: rest => decide (low ≤ k) && !(v == unlisted) && wfAbove (k + 1) rest

/-- The canonical form holds. -/
def wf (m : Memory) : Bool := wfAbove 0 m

/-- The word at `a`, its high byte first (R106). -/
def read16 (m : Memory) (a : Nat) : Half := m.read a ++ m.read (a + 1)

/-- The long at `a`, its most significant byte first (R106). -/
def read32 (m : Memory) (a : Nat) : Long := m.read a ++ m.read (a + 1) ++ m.read (a + 2) ++ m.read (a + 3)

/-- Store a word, its high byte first (R106). -/
def write16 (m : Memory) (a : Nat) (v : Half) : Memory :=
  write (write m a (v.extractLsb' 8 8)) (a + 1) (v.extractLsb' 0 8)

/-- Store a long, its most significant byte first (R106). -/
def write32 (m : Memory) (a : Nat) (v : Long) : Memory :=
  write (write (write (write m a (v.extractLsb' 24 8)) (a + 1) (v.extractLsb' 16 8)) (a + 2) (v.extractLsb' 8 8))
    (a + 3) (v.extractLsb' 0 8)

/-- A read of a byte array at a width (R107). -/
def readAt (m : Memory) (sz : Size) (a : Nat) : BitVec sz.bits :=
  match sz with
  | .b => m.read a
  | .w => m.read16 a
  | .l => m.read32 a

/-- A write of a byte array at a width (R107). -/
def writeAt (m : Memory) (sz : Size) (a : Nat) (v : BitVec sz.bits) : Memory :=
  match sz, v with
  | .b, v => m.write a v
  | .w, v => m.write16 a v
  | .l, v => m.write32 a v

/-- Store a list of bytes from `a` on. -/
def writeList : Memory → Nat → List Byte → Memory
  | m, _, [] => m
  | m, a, b :: rest => writeList (write m a b) (a + 1) rest

end Memory

/-- What a region's accesses reach (R107, R109, R110, R120 to R122, R127). -/
inductive Backing where
  /-- A byte array. -/
  | bytes
  /-- TOM_REGS, unit 2: VI, INT1 and ExtDevice (R120). -/
  | tomRegs
  /-- GPU_CTRL or DSP_CTRL, unit 4 (R121, R122). -/
  | ctrl (u : Coproc)
  /-- ExtDevice in every unit, of the given size in bytes (R127). -/
  | ext (unit : Nat)
deriving DecidableEq, Repr

/-- A MemoryRegion: a half-open range, its capabilities and its backing store (R103, R105, R110). -/
structure Region where
  start : Nat
  stop : Nat
  readable : Bool
  writable : Bool
  executable : Bool
  backing : Backing
deriving DecidableEq, Repr

/-- The fourteen regions of R110, by name. -/
inductive RegionName where
  | mainRam
  | cartRom
  | bootRom
  | tomRegs
  | clut
  | lineBuffers
  | gpuCtrl
  | blitter
  | gpuLocal
  | jerryRegs
  | dspCtrl
  | jerryRegs2
  | dspLocal
  | waveRom
deriving DecidableEq, Repr

/-- The region table of R110. -/
def region : RegionName → Region
  | .mainRam => ⟨0x000000, 0x200000, true, true, true, .bytes⟩
  | .cartRom => ⟨0x800000, 0xE00000, true, false, true, .bytes⟩
  | .bootRom => ⟨0xE00000, 0xE20000, true, false, true, .bytes⟩
  | .tomRegs => ⟨0xF00000, 0xF00400, true, true, false, .tomRegs⟩
  | .clut => ⟨0xF00400, 0xF00800, true, true, false, .bytes⟩
  | .lineBuffers => ⟨0xF00800, 0xF02000, true, true, false, .bytes⟩
  | .gpuCtrl => ⟨0xF02100, 0xF02120, true, true, false, .ctrl .gpu⟩
  | .blitter => ⟨0xF02200, 0xF02300, true, true, false, .ext 4⟩
  | .gpuLocal => ⟨0xF03000, 0xF04000, true, true, true, .bytes⟩
  | .jerryRegs => ⟨0xF10000, 0xF1A100, true, true, false, .ext 2⟩
  | .dspCtrl => ⟨0xF1A100, 0xF1A124, true, true, false, .ctrl .dsp⟩
  | .jerryRegs2 => ⟨0xF1A124, 0xF1B000, true, true, false, .ext 4⟩
  | .dspLocal => ⟨0xF1B000, 0xF1D000, true, true, true, .bytes⟩
  | .waveRom => ⟨0xF1D000, 0xF1E000, true, false, false, .bytes⟩

/-- The regions in the order of registration (R110). -/
def regions : List Region :=
  [ region .mainRam, region .cartRom, region .bootRom, region .tomRegs, region .clut, region .lineBuffers,
    region .gpuCtrl, region .blitter, region .gpuLocal, region .jerryRegs, region .dspCtrl, region .jerryRegs2,
    region .dspLocal, region .waveRom ]

/-- The region contains an address (R103). -/
def Region.contains (g : Region) (a : Nat) : Bool := decide (g.start ≤ a) && decide (a < g.stop)

/-- The region of a bus address: the first that contains it, none if unmapped (R103). -/
def regionAt (a : Nat) : Option Region := regions.find? (fun g => g.contains a)

/-- No two of the regions overlap, and every boundary is a multiple of 4: what registration checks (R111). -/
def registrationOk (gs : List Region) : Bool :=
  (gs.all fun g => g.start % 4 == 0 && g.stop % 4 == 0) &&
    decide (gs.Pairwise fun g h => g.stop ≤ h.start ∨ h.stop ≤ g.start)

end Machine
end Sys2Proof
end

