-- ==== Sys2Proof/Machine/Registers.lean ====
section
/-! DEFINITION. The one way to each register: the CPU's (R21 to R24), the units' (R30 to R33, R39, R40, R42). -/
namespace Sys2Proof.Machine

/-! ### The status register as a word -/

/-- A flag as bit `k` of a value of `n` bits. -/
def flagBit (n k : Nat) (b : Bool) : BitVec n := (BitVec.ofBool b).setWidth n <<< k

/-- Bits 4:0 of SR: X N Z V C (R24). -/
def Ccr.toBits (f : Ccr) : BitVec 5 :=
  flagBit 5 4 f.x ||| flagBit 5 3 f.n ||| flagBit 5 2 f.z ||| flagBit 5 1 f.v ||| flagBit 5 0 f.c

/-- The condition codes that bits 4:0 of a value give (R24). -/
def Ccr.ofBits (v : BitVec 5) : Ccr :=
  { x := v.getLsbD 4, n := v.getLsbD 3, z := v.getLsbD 2, v := v.getLsbD 1, c := v.getLsbD 0 }

/-- SR as the 16-bit word a program reads; the bits that do not exist read 0 (R24). -/
def StatusReg.toHalf (r : StatusReg) : Half :=
  flagBit 16 15 r.t ||| flagBit 16 13 r.s ||| r.i.setWidth 16 <<< 8 ||| r.ccr.toBits.setWidth 16

/-- SR after a write of a 16-bit value: what `v & 0xA71F` keeps (R24). -/
def StatusReg.ofHalf (v : Half) : StatusReg :=
  { t := v.getLsbD 15, s := v.getLsbD 13, i := v.extractLsb' 8 3, ccr := Ccr.ofBits (v.extractLsb' 0 5) }

/-- A program counter's value with bit 0 cleared (R23, R32). -/
def evenAddr (v : Long) : Long := v &&& 0xFFFFFFFE

/-- A register after a write of a size: the low bits replaced, the others kept (R21). -/
def replaceLow (sz : Size) (old : Long) (v : BitVec sz.bits) : Long :=
  match sz, v with
  | .b, v => old.extractLsb' 8 24 ++ v
  | .w, v => old.extractLsb' 16 16 ++ v
  | .l, v => v

namespace State

/-! ### CPU -/

/-- `D[r]`, all 32 bits (R21). -/
def dreg (s : State) (r : Fin 8) : Long := s.cpu.d[r]

/-- `D[r].sz`: the low bits (R21, R230). -/
def dregAt (s : State) (sz : Size) (r : Fin 8) : BitVec sz.bits := (s.dreg r).setWidth sz.bits

/-- Write all 32 bits of `D[r]` (R21). -/
def setDreg (s : State) (r : Fin 8) (v : Long) : State := { s with cpu := { s.cpu with d := s.cpu.d.set r v } }

/-- `D[r].sz <- v` (R21, R230). -/
def setDregAt (s : State) (sz : Size) (r : Fin 8) (v : BitVec sz.bits) : State :=
  s.setDreg r (replaceLow sz (s.dreg r) v)

/-- `A[r]`; `A[7]` is SSP or USP by `SR.S` (R22). -/
def areg (s : State) (r : Fin 8) : Long :=
  if h : r.val < 7 then s.cpu.a[r.val] else if s.cpu.sr.s then s.cpu.ssp else s.cpu.usp

/-- Write `A[r]`, always 32 bits wide (R22, R236). -/
def setAreg (s : State) (r : Fin 8) (v : Long) : State :=
  if h : r.val < 7 then { s with cpu := { s.cpu with a := s.cpu.a.set r.val v } }
  else if s.cpu.sr.s then { s with cpu := { s.cpu with ssp := v } }
  else { s with cpu := { s.cpu with usp := v } }

/-- Write USP itself (R363). -/
def setUsp (s : State) (v : Long) : State := { s with cpu := { s.cpu with usp := v } }

/-- `pc <- v` on the CPU (R23). -/
def setPc (s : State) (v : Long) : State := { s with cpu := { s.cpu with pc := evenAddr v } }

/-- Write SR as a whole (R24). -/
def setSr (s : State) (r : StatusReg) : State := { s with cpu := { s.cpu with sr := r } }

/-- Write the condition codes; the rest of SR stays (R24). -/
def setCcr (s : State) (f : Ccr) : State := s.setSr { s.cpu.sr with ccr := f }

/-- The condition codes (R24). -/
def ccr (s : State) : Ccr := s.cpu.sr.ccr

/-- Write the run state of the CPU (R27). -/
def setRun (s : State) (r : CpuRun) : State := { s with cpu := { s.cpu with run := r } }

/-! ### The two units -/

/-- The common part of a unit. -/
def risc (s : State) : Coproc → Risc
  | .gpu => s.gpu.core
  | .dsp => s.dsp.core

/-- Replace the common part of a unit. -/
def setRisc (s : State) (u : Coproc) (r : Risc) : State :=
  match u with
  | .gpu => { s with gpu := { s.gpu with core := r } }
  | .dsp => { s with dsp := { s.dsp with core := r } }

/-- Bank 1 is the active bank: IMASK is 0 and REGPAGE is 1 (R31). -/
def bank1Active (s : State) (u : Coproc) : Bool := !(s.risc u).imask && (s.risc u).regpage

/-- `R[n]` of the active bank (R30, R31). -/
def rreg (s : State) (u : Coproc) (n : Fin 32) : Long :=
  if s.bank1Active u then (s.risc u).bank1[n] else (s.risc u).bank0[n]

/-- `ALT[n]`, register `n` of the other bank (R30). -/
def altReg (s : State) (u : Coproc) (n : Fin 32) : Long :=
  if s.bank1Active u then (s.risc u).bank0[n] else (s.risc u).bank1[n]

/-- Write register `n` of bank 0. -/
def setBank0 (s : State) (u : Coproc) (n : Fin 32) (v : Long) : State :=
  s.setRisc u { s.risc u with bank0 := (s.risc u).bank0.set n v }

/-- Write register `n` of bank 1. -/
def setBank1 (s : State) (u : Coproc) (n : Fin 32) (v : Long) : State :=
  s.setRisc u { s.risc u with bank1 := (s.risc u).bank1.set n v }

/-- `R[n] <- v` in the active bank (R30, R31). -/
def setRreg (s : State) (u : Coproc) (n : Fin 32) (v : Long) : State :=
  if s.bank1Active u then s.setBank1 u n v else s.setBank0 u n v

/-- `ALT[n] <- v` in the other bank (R30). -/
def setAltReg (s : State) (u : Coproc) (n : Fin 32) (v : Long) : State :=
  if s.bank1Active u then s.setBank0 u n v else s.setBank1 u n v

/-- `pc <- v` on a unit (R32). -/
def setRpc (s : State) (u : Coproc) (v : Long) : State := s.setRisc u { s.risc u with pc := evenAddr v }

/-- Write Z and N of a unit (R33). -/
def setZN (s : State) (u : Coproc) (z n : Bool) : State := s.setRisc u { s.risc u with z := z, n := n }

/-- Write Z, N and C of a unit (R33). -/
def setZNC (s : State) (u : Coproc) (z n c : Bool) : State := s.setRisc u { s.risc u with z := z, n := n, c := c }

/-- Write HIDATA (R39). -/
def setHidata (s : State) (v : Long) : State := { s with gpu := { s.gpu with hidata := v } }

/-- Write MOD (R40). -/
def setModulo (s : State) (v : Long) : State := { s with dsp := { s.dsp with modulo := v } }

/-- `ACC[31:0]` of a unit (R42). -/
def accLow (s : State) : Coproc → Long
  | .gpu => s.gpu.acc
  | .dsp => s.dsp.acc.extractLsb' 0 32

/-- `ACC <- p`, sign-extended to the accumulator's width, 32 bits on the GPU and 40 on the DSP (R42, R420). -/
def setAcc (s : State) (u : Coproc) (p : Int) : State :=
  match u with
  | .gpu => { s with gpu := { s.gpu with acc := BitVec.ofInt 32 p } }
  | .dsp => { s with dsp := { s.dsp with acc := BitVec.ofInt 40 p } }

/-- `ACC <- ACC + p` modulo 2^32 on the GPU and 2^40 on the DSP (R42, R421). -/
def addAcc (s : State) (u : Coproc) (p : Int) : State :=
  match u with
  | .gpu => { s with gpu := { s.gpu with acc := s.gpu.acc + BitVec.ofInt 32 p } }
  | .dsp => { s with dsp := { s.dsp with acc := s.dsp.acc + BitVec.ofInt 40 p } }

/-! ### Both kinds -/

/-- The program counter of a role. -/
def pcOf (s : State) : Role → Long
  | .cpu => s.cpu.pc
  | .risc u => (s.risc u).pc

/-- `pc <- v` for a role (R23, R32). -/
def setPcOf (s : State) (p : Role) (v : Long) : State :=
  match p with
  | .cpu => s.setPc v
  | .risc u => s.setRpc u v

/-- Replace memory. -/
def setMem (s : State) (m : Memory) : State := { s with mem := m }

/-- Add to this step's cycle count (R614, R625, R650, R651). -/
def addStepCycles (s : State) (c : Nat) : State := { s with stepCycles := s.stepCycles + c }

/-- Charge the cost of the instruction whose words have been fetched, and start a new instruction (R650, R651). -/
def chargeFetched (s : State) (p : Role) : State :=
  { s with stepCycles := s.stepCycles + Config.cost p s.fetched, fetched := [] }

/-- Add to a processor's cycle counter (R26, R44). -/
def addCycles (s : State) (p : Role) (c : Nat) : State :=
  match p with
  | .cpu => { s with cpu := { s.cpu with cycles := s.cpu.cycles + c } }
  | .risc u => s.setRisc u { s.risc u with cycles := (s.risc u).cycles + c }

end State
end Sys2Proof.Machine
end

