-- ==== Sys2Proof/Machine/Lines.lean ====
section
/-! DEFINITION. The interrupt controller (R600): the lines of the three processors, its four operations and the
priority tables (R611). -/
namespace Sys2Proof.Machine

/-- The flags of a line that does not exist (R603). -/
def noLine : Line := { enabled := false, pending := false }

/-- Line `k` of a processor (R51). -/
def State.line (s : State) (p : Role) (k : Nat) : Line :=
  match p with
  | .cpu => if h : k < 5 then s.cpuLines[k] else noLine
  | .risc .gpu => if h : k < 5 then s.gpu.lines[k] else noLine
  | .risc .dsp => if h : k < 6 then s.dsp.lines[k] else noLine

/-- Change line `k` of a processor; no effect where there is no such line (R603). -/
def State.setLine (s : State) (p : Role) (k : Nat) (l : Line) : State :=
  match p with
  | .cpu => if h : k < 5 then { s with cpuLines := s.cpuLines.set k l } else s
  | .risc .gpu => if h : k < 5 then { s with gpu := { s.gpu with lines := s.gpu.lines.set k l } } else s
  | .risc .dsp => if h : k < 6 then { s with dsp := { s.dsp with lines := s.dsp.lines.set k l } } else s

/-- `raise(p, k)` (R600). -/
def raiseLine (p : Role) (k : Nat) (s : State) : State := s.setLine p k { s.line p k with pending := true }

/-- `clear(p, k)` (R600). -/
def clearLine (p : Role) (k : Nat) (s : State) : State := s.setLine p k { s.line p k with pending := false }

/-- `setEnabled(p, k, b)` (R600). -/
def setEnabled (p : Role) (k : Nat) (b : Bool) (s : State) : State := s.setLine p k { s.line p k with enabled := b }

/-- `clear(p, k)` where a bit of a written value says so (R34, R52). -/
def clearLineIf (p : Role) (k : Nat) (b : Bool) (s : State) : State := if b then clearLine p k s else s

/-- The lines of a processor, highest priority first (R611). -/
def priority : Role → List Nat
  | .cpu => [0, 1, 2, 3, 4]
  | .risc .gpu => [4, 3, 2, 1, 0]
  | .risc .dsp => [5, 4, 3, 2, 1, 0]

/-- A line that contributes to the delivered vector: enabled and pending (R50, R600). -/
def State.lineActive (s : State) (p : Role) (k : Nat) : Bool := (s.line p k).enabled && (s.line p k).pending

/-- `currentVector(p)` (R600, R610). -/
def currentVector (p : Role) (s : State) : Option Nat := (priority p).find? (s.lineActive p)

end Sys2Proof.Machine
end

