-- ==== Sys2Proof/Machine/Bus.lean ====
section
/-! DEFINITION. The memory bus (R100 to R109): the device registers (R34 to R42, R52, R53, R120 to R122), ExtDevice
(R127), and the two operations `memRead` and `memWrite`. A read answers its value and the state after it, since a read
of an ExtDevice unit may change the state (R127, R132). -/
namespace Sys2Proof.Machine

/-! ### ExtDevice (R127) -/

/-- The address belongs to a byte array, the only memory that ExtDevice may change (R127). -/
def inByteArray (a : Nat) : Bool :=
  match regionAt a with
  | some g => g.backing == .bytes
  | none => false

/-- Store the cells of a response that lie in byte arrays. -/
def extStores : List Host.Cell → Memory → Memory
  | [], m => m
  | (a, b) :: rest, m => extStores rest (if inByteArray a then m.write a b else m)

/-- Raise the lines of a response. -/
def extRaises : List (Role × Nat) → State → State
  | [], s => s
  | (p, k) :: rest, s => extRaises rest (raiseLine p k s)

/-- The effect of what a function of ExtDevice answered: the bytes stored, the device's own state, the lines raised
(R127). -/
def extEffect (r : ExtResponse) (s : State) : State :=
  extRaises r.raises { s with mem := extStores r.stores s.mem, ext := { s.ext with own := r.own } }

/-- A call of a function of ExtDevice for its effect. The default device's `read` and `tick` have none (R127). -/
def extCall (call : ExtCall) (s : State) : State :=
  match s.params.device with
  | .default => s
  | .handler n _ => extEffect (Config.extHandler n call s) s

/-- What the storage of the default device holds in a unit (R127). -/
def ExtState.unitAt (x : ExtState) (unit ua : Nat) : Long :=
  if unit = 2 then (x.units.read16 ua).setWidth 32 else x.units.read32 ua

/-- A value at the width of a unit. -/
def atUnit (unit : Nat) (v : Long) : Long := if unit = 2 then v &&& 0xFFFF else v

/-- What `ExtDevice.read(unitAddr)` answers (R127). -/
def extValue (unit ua : Nat) (s : State) : Long :=
  match s.params.device with
  | .default => s.ext.unitAt unit ua
  | .handler n _ => atUnit unit (Config.extHandler n (.read ua) s).value

/-- `ExtDevice.write(unitAddr, value)` (R127): the default device keeps the value. -/
def extWrite (unit ua : Nat) (v : Long) (s : State) : State :=
  match s.params.device with
  | .default => { s with ext := { s.ext with
      units := if unit = 2 then s.ext.units.write16 ua (v.setWidth 16) else s.ext.units.write32 ua v } }
  | .handler n _ => extEffect (Config.extHandler n (.write ua (atUnit unit v)) s) s

/-! ### Device registers -/

/-- A register of a device region, by name. -/
inductive DevReg where
  /-- R53. -/
  | vi
  /-- R52. -/
  | int1
  /-- R34. -/
  | flags (u : Coproc)
  /-- R36. -/
  | mtxc (u : Coproc)
  /-- R37. -/
  | mtxa (u : Coproc)
  /-- END, R38. -/
  | endian (u : Coproc)
  /-- PC port, R38. -/
  | pcPort (u : Coproc)
  /-- R35. -/
  | ctrl (u : Coproc)
  /-- HIDATA of the GPU (R39), MOD of the DSP (R40). -/
  | hidataOrMod (u : Coproc)
  /-- REMAIN (read) and DIVCTRL (write), R41. -/
  | remain (u : Coproc)
  /-- D_MACHI, R42. -/
  | machi
  /-- A unit of ExtDevice, R127. -/
  | ext (unit ua : Nat)
deriving DecidableEq, Repr

/-- The unit of a device region in bytes (R109, R110). -/
def Backing.unit : Backing → Nat
  | .bytes => 1
  | .tomRegs => 2
  | .ctrl _ => 4
  | .ext unit => unit

/-- The first address of a unit's control registers (R110). -/
def ctrlBase : Coproc → Nat
  | .gpu => 0xF02100
  | .dsp => 0xF1A100

/-- The register at offset `4 * k` of a control region (R121, R122). The GPU's region ends after `k = 7`. -/
def ctrlReg (u : Coproc) : Nat → DevReg
  | 0 => .flags u
  | 1 => .mtxc u
  | 2 => .mtxa u
  | 3 => .endian u
  | 4 => .pcPort u
  | 5 => .ctrl u
  | 6 => .hidataOrMod u
  | 7 => .remain u
  | _ => .machi

/-- The register at a unit-aligned address of a device region (R120 to R122, R127). Every unit-aligned address of the
device regions of R110 has one, so the last sentence of R109 never applies. -/
def devRegAt (b : Backing) (ua : Nat) : DevReg :=
  match b with
  | .bytes => .ext 1 ua
  | .tomRegs => if ua = 0xF0004E then .vi else if ua = 0xF000E0 then .int1 else .ext 2 ua
  | .ctrl u => ctrlReg u ((ua - ctrlBase u) / 4)
  | .ext unit => .ext unit ua

/-- A flag at bit `k` of a register. -/
def bitAt (b : Bool) (k : Nat) : Long := if b then 1#32 <<< k else 0

/-- What a read of FLAGS returns (R34). -/
def flagsValue (u : Coproc) (s : State) : Long :=
  let r := s.risc u
  let en (k : Nat) : Bool := (s.line (.risc u) k).enabled
  bitAt r.z 0 ||| bitAt r.c 1 ||| bitAt r.n 2 ||| bitAt r.imask 3 |||
  bitAt (en 0) 4 ||| bitAt (en 1) 5 ||| bitAt (en 2) 6 ||| bitAt (en 3) 7 ||| bitAt (en 4) 8 |||
  bitAt r.regpage 14 ||| bitAt r.dmaen 15 ||| bitAt (en 5) 16

/-- A write of FLAGS: flags and stored bits; enabled flags; IMASK; pending flags cleared (R34). The active bank is
computed from IMASK and REGPAGE at each access (R31). -/
def writeFlags (u : Coproc) (v : Long) (s : State) : State :=
  let p : Role := .risc u
  let r := s.risc u
  let s := s.setRisc u
    { r with
      z := v.getLsbD 0, c := v.getLsbD 1, n := v.getLsbD 2, regpage := v.getLsbD 14, dmaen := v.getLsbD 15 }
  let s := setEnabled p 5 (v.getLsbD 16) (setEnabled p 4 (v.getLsbD 8) (setEnabled p 3 (v.getLsbD 7)
    (setEnabled p 2 (v.getLsbD 6) (setEnabled p 1 (v.getLsbD 5) (setEnabled p 0 (v.getLsbD 4) s)))))
  let s := s.setRisc u { s.risc u with imask := (s.risc u).imask && v.getLsbD 3 }
  clearLineIf p 5 (v.getLsbD 17) (clearLineIf p 4 (v.getLsbD 13) (clearLineIf p 3 (v.getLsbD 12)
    (clearLineIf p 2 (v.getLsbD 11) (clearLineIf p 1 (v.getLsbD 10) (clearLineIf p 0 (v.getLsbD 9) s)))))

/-- What a read of CTRL returns; VERSION is 2 (R35). -/
def ctrlValue (u : Coproc) (s : State) : Long :=
  let r := s.risc u
  let lat (k : Nat) : Bool := (s.line (.risc u) k).pending
  bitAt r.go 0 ||| bitAt r.singleStep 3 |||
  bitAt (lat 0) 6 ||| bitAt (lat 1) 7 ||| bitAt (lat 2) 8 ||| bitAt (lat 3) 9 ||| bitAt (lat 4) 10 |||
  bitAt r.busHog 11 ||| 0x2000#32 ||| bitAt (lat 5) 16

/-- The CPU line that CPUINT of a unit raises (R35, R608). -/
def cpuIntLine : Coproc → Nat
  | .gpu => 1
  | .dsp => 4

/-- A write of CTRL: stored bits; CPUINT; FORCEINT0; GO (R35). -/
def writeCtrl (u : Coproc) (v : Long) (s : State) : State :=
  let s := s.setRisc u { s.risc u with singleStep := v.getLsbD 3, busHog := v.getLsbD 11 }
  let s := if v.getLsbD 1 then raiseLine .cpu (cpuIntLine u) s else s
  let s := if v.getLsbD 2 then raiseLine (.risc u) 0 s else s
  s.setRisc u { s.risc u with go := v.getLsbD 0 }

/-- The enabled flags of the CPU lines in bits 4:0: the merge base of INT1 (R52). -/
def int1Enabled (s : State) : Long :=
  let en (k : Nat) : Bool := (s.line .cpu k).enabled
  bitAt (en 0) 0 ||| bitAt (en 1) 1 ||| bitAt (en 2) 2 ||| bitAt (en 3) 3 ||| bitAt (en 4) 4

/-- The pending flags of the CPU lines in bits 4:0: what a read of INT1 returns (R52). -/
def int1Pending (s : State) : Long :=
  let lat (k : Nat) : Bool := (s.line .cpu k).pending
  bitAt (lat 0) 0 ||| bitAt (lat 1) 1 ||| bitAt (lat 2) 2 ||| bitAt (lat 3) 3 ||| bitAt (lat 4) 4

/-- A write of INT1 (R52). -/
def writeInt1 (v : Long) (s : State) : State :=
  let s := setEnabled .cpu 4 (v.getLsbD 4) (setEnabled .cpu 3 (v.getLsbD 3) (setEnabled .cpu 2 (v.getLsbD 2)
    (setEnabled .cpu 1 (v.getLsbD 1) (setEnabled .cpu 0 (v.getLsbD 0) s))))
  clearLineIf .cpu 4 (v.getLsbD 12) (clearLineIf .cpu 3 (v.getLsbD 11) (clearLineIf .cpu 2 (v.getLsbD 10)
    (clearLineIf .cpu 1 (v.getLsbD 9) (clearLineIf .cpu 0 (v.getLsbD 8) s))))

/-- What the read function of a register returns, in the low bits of a long (R34 to R42, R52, R53). -/
def regValue (r : DevReg) (s : State) : Long :=
  match r with
  | .vi => s.vi.setWidth 32
  | .int1 => int1Pending s
  | .flags u => flagsValue u s
  | .mtxc u => (BitVec.ofBool (s.risc u).matCol ++ (s.risc u).mtxWidth).setWidth 32
  | .mtxa u => ((s.risc u).mtxa ++ 0#2).setWidth 32
  | .endian u => (s.risc u).endian
  | .pcPort u => (s.risc u).pc
  | .ctrl u => ctrlValue u s
  | .hidataOrMod .gpu => s.gpu.hidata
  | .hidataOrMod .dsp => s.dsp.modulo
  | .remain u => (s.risc u).remain
  | .machi => (s.dsp.acc.extractLsb' 32 8).signExtend 32
  | .ext unit ua => extValue unit ua s

/-- A call of a register's read function: its value and the state after it. Only ExtDevice has side effects (R132). -/
def regRead (r : DevReg) (s : State) : Long × State :=
  match r with
  | .ext unit ua => (extValue unit ua s, extCall (.read ua) s)
  | r => (regValue r s, s)

/-- The merge base of a write narrower than the unit (R109): what a read would return, and for INT1 the enabled
flags (R52). -/
def mergeBase (r : DevReg) (s : State) : Long :=
  match r with
  | .int1 => int1Enabled s
  | r => regValue r s

/-- A call of a register's write function (R34 to R42, R52, R53). -/
def regWrite (r : DevReg) (v : Long) (s : State) : State :=
  match r with
  | .vi => { s with vi := v.setWidth 11 }
  | .int1 => writeInt1 v s
  | .flags u => writeFlags u v s
  | .mtxc u => s.setRisc u { s.risc u with mtxWidth := v.extractLsb' 0 4, matCol := v.getLsbD 4 }
  | .mtxa u => s.setRisc u { s.risc u with mtxa := v.extractLsb' 2 10 }
  | .endian u => s.setRisc u { s.risc u with endian := v }
  | .pcPort u => s.setRpc u v
  | .ctrl u => writeCtrl u v s
  | .hidataOrMod .gpu => s.setHidata v
  | .hidataOrMod .dsp => s.setModulo v
  | .remain u => s.setRisc u { s.risc u with divOffset := v.getLsbD 0 }
  | .machi => s
  | .ext unit ua => extWrite unit ua v s

/-! ### Accesses -/

/-- `n` copies of the fill byte (R104). -/
def fillValue (sz : Size) : BitVec sz.bits :=
  match sz with
  | .b => Config.fill
  | .w => Config.fill ++ Config.fill
  | .l => Config.fill ++ Config.fill ++ Config.fill ++ Config.fill

/-- How far from the least significant end of a unit an access of a size at an address lies, in bits: byte 0 is the
most significant (R109). -/
def unitShift (unit : Nat) (sz : Size) (a : Nat) : Nat := 8 * (unit - a % unit - sz.bytes)

/-- A read of a device region (R109). -/
def deviceRead (b : Backing) (sz : Size) (a : Nat) (s : State) : BitVec sz.bits × State :=
  if sz.bytes ≤ b.unit then
    let r := regRead (devRegAt b (a - a % b.unit)) s
    ((r.1 >>> unitShift b.unit sz a).setWidth sz.bits, r.2)
  else
    let hi := regRead (devRegAt b a) s
    let lo := regRead (devRegAt b (a + 2)) hi.2
    ((hi.1 <<< 16 ||| lo.1).setWidth sz.bits, lo.2)

/-- A long with the bytes of an access replaced: what the write function of R109 is given. -/
def mergeInto (unit : Nat) (sz : Size) (a : Nat) (base : Long) (v : BitVec sz.bits) : Long :=
  let sh := unitShift unit sz a
  (base &&& ~~~(((BitVec.allOnes sz.bits).setWidth 32) <<< sh)) ||| ((v.setWidth 32) <<< sh)

/-- A write of a device region (R109). -/
def deviceWrite (b : Backing) (sz : Size) (a : Nat) (v : BitVec sz.bits) (s : State) : State :=
  if sz.bytes ≤ b.unit then
    let r := devRegAt b (a - a % b.unit)
    regWrite r (mergeInto b.unit sz a (mergeBase r s) v) s
  else
    let s := regWrite (devRegAt b a) ((v.setWidth 32) >>> 16) s
    regWrite (devRegAt b (a + 2)) ((v.setWidth 32) &&& 0xFFFF) s

/-- A read of the bus at an aligned address: resolve, then perform (R103 to R109). -/
def busRead (sz : Size) (a : Nat) (s : State) : BitVec sz.bits × State :=
  match regionAt a with
  | none => (fillValue sz, s)
  | some g =>
    if g.readable then
      match g.backing with
      | .bytes => (s.mem.readAt sz a, s)
      | b => deviceRead b sz a s
    else (fillValue sz, s)

/-- A write of the bus at an aligned address (R103 to R109). -/
def busWrite (sz : Size) (a : Nat) (v : BitVec sz.bits) (s : State) : State :=
  match regionAt a with
  | none => s
  | some g =>
    if g.writable then
      match g.backing with
      | .bytes => s.setMem (s.mem.writeAt sz a v)
      | b => deviceWrite b sz a v s
    else s

/-- Wrap and align: the low 24 bits, rounded down to a multiple of the width (R101, R102). -/
def alignedAddr (sz : Size) (addr : Long) : Nat :=
  addr.toNat % 0x1000000 - addr.toNat % sz.bytes

/-- `MemRead(addr, n)` for a requester (R100, R102). -/
def memRead (p : Role) (sz : Size) (addr : Long) (s : State) : BitVec sz.bits × State :=
  match sz, p with
  | .b, _ => busRead .b (alignedAddr .b addr) s
  | .w, _ => busRead .w (alignedAddr .w addr) s
  | .l, .cpu =>
    let hi := busRead .w (alignedAddr .w addr) s
    let lo := busRead .w (alignedAddr .w (addr + 2)) hi.2
    (hi.1 ++ lo.1, lo.2)
  | .l, .risc _ => busRead .l (alignedAddr .l addr) s

/-- `MemWrite(addr, n, v)` for a requester (R100, R102). -/
def memWrite (p : Role) (sz : Size) (addr : Long) (v : BitVec sz.bits) (s : State) : State :=
  match sz, p, v with
  | .b, _, v => busWrite .b (alignedAddr .b addr) v s
  | .w, _, v => busWrite .w (alignedAddr .w addr) v s
  | .l, .cpu, v =>
    busWrite .w (alignedAddr .w (addr + 2)) (v.extractLsb' 0 16)
      (busWrite .w (alignedAddr .w addr) (v.extractLsb' 16 16) s)
  | .l, .risc _, v => busWrite .l (alignedAddr .l addr) v s

end Sys2Proof.Machine
end

