-- ==== Sys2Proof/Machine/Ops.lean ====
section
/-! DEFINITION. The shared operations over the machine: instruction fetch (R108), the CPU's stack helpers (R233),
taking an exception or an interrupt (R614) and returning from one (R348), the privilege check (R640), and the
interrupt entry of a RISC unit (R626). -/
namespace Sys2Proof.Machine

/-- The outcome of a meaning. -/
abbrev Result := Host.Outcome State Fault Refusal

/-! ### Accesses at one width -/

/-- `MemRead(a, 1)`. -/
def readByte (p : Role) (a : Long) (s : State) : Byte × State := memRead p .b a s

/-- `MemRead(a, 2)`. -/
def readWord (p : Role) (a : Long) (s : State) : Half × State := memRead p .w a s

/-- `MemRead(a, 4)`. -/
def readLong (p : Role) (a : Long) (s : State) : Long × State := memRead p .l a s

/-- `MemWrite(a, 1, v)`. -/
def writeByte (p : Role) (a : Long) (v : Byte) (s : State) : State := memWrite p .b a v s

/-- `MemWrite(a, 2, v)`. -/
def writeWord (p : Role) (a : Long) (v : Half) (s : State) : State := memWrite p .w a v s

/-- `MemWrite(a, 4, v)`. -/
def writeLong (p : Role) (a v : Long) (s : State) : State := memWrite p .l a v s

/-! ### Instruction fetch -/

/-- The word at an address as instruction fetch sees it: the read of R103 to R107 with the executable capability
(R105, R108). Every executable region is a byte array (R110), so no handler is ever called. -/
def fetchWordAt (addr : Long) (s : State) : Half :=
  match regionAt (alignedAddr .w addr) with
  | none => fillValue .w
  | some g =>
    if g.executable then
      match g.backing with
      | .bytes => s.mem.read16 (alignedAddr .w addr)
      | _ => fillValue .w
    else fillValue .w

/-- `Fetch16()` (R108): the word at `pc`, and the state with `pc` past it and the word recorded for COST. -/
def fetch16 (p : Role) (s : State) : Half × State :=
  let w := fetchWordAt (s.pcOf p) s
  (w, { s.setPcOf p (s.pcOf p + 2) with fetched := s.fetched ++ [w] })

/-- Two instruction words, the first the high half (R174, R231). -/
def fetch32 (p : Role) (s : State) : Long × State :=
  let hi := fetch16 p s
  let lo := fetch16 p hi.2
  (hi.1 ++ lo.1, lo.2)

/-- The address of the operation word of the CPU instruction in progress, before it fetches its extension words:
`opaddr` of R650. A meaning starts with `pc` just past that word. -/
def opaddr (s : State) : Long := s.cpu.pc - 2

/-! ### The CPU's stack (R233) -/

/-- `Push32(v)` (R233). -/
def push32 (v : Long) (s : State) : State :=
  let s := s.setAreg 7 (s.areg 7 - 4)
  writeLong .cpu (s.areg 7) v s

/-- `Push16(v)` (R233). -/
def push16 (v : Half) (s : State) : State :=
  let s := s.setAreg 7 (s.areg 7 - 2)
  writeWord .cpu (s.areg 7) v s

/-- `Pop32()` (R233). -/
def pop32 (s : State) : Long × State :=
  let r := readLong .cpu (s.areg 7) s
  (r.1, r.2.setAreg 7 (r.2.areg 7 + 4))

/-- `Pop16()` (R233). -/
def pop16 (s : State) : Half × State :=
  let r := readWord .cpu (s.areg 7) s
  (r.1, r.2.setAreg 7 (r.2.areg 7 + 2))

/-! ### Taking an exception, and the return -/

/-- The vector number of an entry: 64 for the interrupt (R614, R620). -/
def excVector : ExcKind → Byte
  | .vector v => v
  | .interrupt => 64

/-- SR inside a handler: supervisor, no trace, and the mask at 2 for an interrupt (R614). -/
def excSr (k : ExcKind) (old : StatusReg) : StatusReg :=
  match k with
  | .vector _ => { old with s := true, t := false }
  | .interrupt => { old with s := true, t := false, i := 2 }

/-- `Exception(v, savedPc)` and `Interrupt(savedPc)` (R614): the whole exception sequence. -/
def takeException (k : ExcKind) (savedPc : Long) (s : State) : State :=
  let old := s.cpu.sr
  let s := s.setSr (excSr k old)
  let s := push16 old.toHalf (push32 savedPc s)
  let r := readLong .cpu ((excVector k).setWidth 32 <<< 2) s
  ((r.2.setPc r.1).setRun .running).addStepCycles (Config.costExc .cpu k)

/-- The return from an exception, in supervisor mode (R348): the frame is popped from SSP before SR changes. -/
def returnFromException (s : State) : State :=
  let w := pop16 s
  let a := pop32 w.2
  (a.2.setSr (StatusReg.ofHalf w.1)).setPc a.1

/-- A privileged instruction: its effect in supervisor mode, vector 8 with the saved `pc` at the operation word in
user mode (R640, R612). -/
def privileged (effect : State → State) (s : State) : State :=
  if s.cpu.sr.s then effect s else takeException (.vector 8) (opaddr s) s

/-! ### The RISC units' interrupt entry -/

/-- `Entry(u, k)` (R626). -/
def riscEntry (u : Coproc) (k : Nat) (s : State) : State :=
  let s := s.setRisc u { s.risc u with imask := true }
  let s := s.setBank0 u 31 ((s.risc u).bank0[31] - 4)
  let s := writeLong (.risc u) ((s.risc u).bank0[31]) ((s.risc u).pc - 2) s
  let s := s.setBank0 u 30 (BitVec.ofNat 32 (Config.localBase u + 16 * k))
  s.setRpc u ((s.risc u).bank0[30])

/-- The interrupt check of a unit, the last thing of each of its steps (R625). -/
def riscInterruptCheck (u : Coproc) (s : State) : State :=
  match currentVector (.risc u) s with
  | none => s
  | some k =>
    if (s.risc u).imask then s
    else
      (riscEntry u k (s.setRisc u { s.risc u with go := true })).addStepCycles
        (Config.costExc (.risc u) .interrupt)

/-- The interrupt check of the CPU: level 2 against the mask (R620). -/
def cpuInterruptCheck (s : State) : State :=
  match currentVector .cpu s with
  | none => s
  | some _ => if s.cpu.sr.i < 2 then takeException .interrupt s.cpu.pc s else s

end Sys2Proof.Machine
end

