-- ==== Sys2Proof/Machine/Flags.lean ====
section
/-! DEFINITION. Every result and flag computation of the CPU: std (R234), add, subtract and compare (R260), decimal
(R283 to R285), shifts and rotates (R310 to R318), conditions (R182); and of the RISC units: Add, Sub (R400),
conditions (R204). Exact integers first, narrowed at the end. -/
namespace Sys2Proof.Machine

/-! ### CPU: std, add, subtract, compare -/

/-- The std flags of a result: N and Z from it, V and C clear, X as it was (R234). -/
def stdFlags {n : Nat} (r : BitVec n) (old : Ccr) : Ccr :=
  { x := old.x, n := r.msb, z := r == 0#n, v := false, c := false }

/-- An integer that no signed `n`-bit value is (R260). -/
def outOfSigned (n : Nat) (v : Int) : Bool := decide (v < -(2 ^ (n - 1) : Int)) || decide ((2 ^ (n - 1) : Int) ≤ v)

/-- `(d + s + x) mod 2^n` (R260). -/
def addResult {n : Nat} (s d : BitVec n) (x : Bool) : BitVec n := BitVec.ofNat n (d.toNat + s.toNat + x.toNat)

/-- `AddFlags(s, d, x)` (R260). -/
def addFlags {n : Nat} (s d : BitVec n) (x : Bool) : Ccr :=
  let r := addResult s d x
  let c := decide (2 ^ n ≤ d.toNat + s.toNat + x.toNat)
  { x := c, n := r.msb, z := r == 0#n, v := outOfSigned n (d.toInt + s.toInt + x.toNat), c := c }

/-- `(d - s - x) mod 2^n` (R260). -/
def subResult {n : Nat} (s d : BitVec n) (x : Bool) : BitVec n :=
  BitVec.ofInt n ((d.toNat : Int) - s.toNat - x.toNat)

/-- `SubFlags(s, d, x)` (R260): C is the borrow. -/
def subFlags {n : Nat} (s d : BitVec n) (x : Bool) : Ccr :=
  let r := subResult s d x
  let c := decide ((d.toNat : Int) - s.toNat - x.toNat < 0)
  { x := c, n := r.msb, z := r == 0#n, v := outOfSigned n (d.toInt - s.toInt - x.toNat), c := c }

/-- `CmpFlags(s, d)`: `SubFlags(s, d, 0)` with X as it was (R260). -/
def cmpFlags {n : Nat} (s d : BitVec n) (old : Ccr) : Ccr := { subFlags s d false with x := old.x }

/-- The sticky Z of the extended instructions: a zero result leaves Z (R260). -/
def stickyZ (old f : Ccr) : Ccr := { f with z := old.z && f.z }

/-! ### CPU: decimal -/

/-- Result and carry of `ABCD` (R283). -/
def decimalAdd (s d : Byte) (x : Bool) : Byte × Bool :=
  let lo := s.toNat % 16 + d.toNat % 16 + x.toNat
  let t := s.toNat + d.toNat + x.toNat
  let t := if lo > 9 then t + 6 else t
  let c := decide (t ≥ 0xA0)
  let t := if c then t + 0x60 else t
  (BitVec.ofNat 8 t, c)

/-- Result and borrow of `SBCD`; `NBCD` is the case `d = 0` (R284, R285). -/
def decimalSub (s d : Byte) (x : Bool) : Byte × Bool :=
  let lo : Int := (d.toNat % 16 : Nat) - (s.toNat % 16 : Nat) - x.toNat
  let t0 : Int := d.toNat - s.toNat - x.toNat
  let t := if lo < 0 then t0 - 6 else t0
  let c := decide (t < 0)
  let t := if t0 < 0 then t - 0x60 else t
  (BitVec.ofInt 8 t, c)

/-- The flags of a decimal instruction: C and X the decimal carry, Z sticky, N bit 7 of the result, V any value
(R283 to R285, V3, log 8). -/
def decimalFlags (rule : DecimalRule) (s d : Byte) (rc : Byte × Bool) (old : Ccr) : Ccr :=
  { x := rc.2, n := rc.1.msb, z := old.z && rc.1 == 0, v := Config.undefDecimal rule s d old.toBits, c := rc.2 }

/-! ### CPU: shifts and rotates -/

/-- The eight shifts and rotates (R311 to R318). -/
inductive ShiftKind where
  | asl
  | asr
  | lsl
  | lsr
  | rol
  | ror
  | roxl
  | roxr
deriving DecidableEq, Repr

/-- What the one-bit steps of R310 work on: the operand and X, V, C. -/
structure ShiftState (n : Nat) where
  val : BitVec n
  x : Bool
  v : Bool
  c : Bool
deriving DecidableEq, Repr

/-- A bit at the least significant place. -/
def lowBit (n : Nat) (b : Bool) : BitVec n := (BitVec.ofBool b).setWidth n

/-- A bit at the most significant place. -/
def highBit (n : Nat) (b : Bool) : BitVec n := lowBit n b <<< (n - 1)

/-- The one-bit step of an instruction (R311 to R318). -/
def shiftStep {n : Nat} (k : ShiftKind) (t : ShiftState n) : ShiftState n :=
  let hi := t.val.msb
  let lo := t.val.getLsbD 0
  let left := t.val <<< 1
  let right := t.val >>> 1
  match k with
  | .asl => { val := left, x := hi, v := t.v || (left.msb != hi), c := hi }
  | .asr => { val := right ||| highBit n hi, x := lo, v := t.v, c := lo }
  | .lsl => { val := left, x := hi, v := t.v, c := hi }
  | .lsr => { val := right, x := lo, v := t.v, c := lo }
  | .rol => { val := left ||| lowBit n hi, x := t.x, v := t.v, c := hi }
  | .ror => { val := right ||| highBit n lo, x := t.x, v := t.v, c := lo }
  | .roxl => { val := left ||| lowBit n t.x, x := hi, v := t.v, c := hi }
  | .roxr => { val := right ||| highBit n t.x, x := lo, v := t.v, c := lo }

/-- `c` one-bit steps (R310). -/
def shiftRun {n : Nat} (k : ShiftKind) : Nat → ShiftState n → ShiftState n
  | 0, t => t
  | c + 1, t => shiftRun k c (shiftStep k t)

/-- Before the first step: V and C are 0, but C is X for ROXL and ROXR; that is what a count of 0 leaves (R310). -/
def shiftStart {n : Nat} (k : ShiftKind) (val : BitVec n) (old : Ccr) : ShiftState n :=
  { val := val, x := old.x, v := false,
    c := match k with
      | .roxl => old.x
      | .roxr => old.x
      | _ => false }

/-- Result and flags of a shift or rotate by a count (R310). -/
def shiftBy {n : Nat} (k : ShiftKind) (count : Nat) (val : BitVec n) (old : Ccr) : BitVec n × Ccr :=
  let t := shiftRun k count (shiftStart k val old)
  (t.val, { x := t.x, n := t.val.msb, z := t.val == 0#n, v := t.v, c := t.c })

/-! ### CPU: conditions -/

/-- The condition test of R182. -/
def condHolds (k : Cond) (f : Ccr) : Bool :=
  match k with
  | .t => true
  | .f => false
  | .hi => !f.c && !f.z
  | .ls => f.c || f.z
  | .cc => !f.c
  | .cs => f.c
  | .ne => !f.z
  | .eq => f.z
  | .vc => !f.v
  | .vs => f.v
  | .pl => !f.n
  | .mi => f.n
  | .ge => f.n == f.v
  | .lt => f.n != f.v
  | .gt => !f.z && f.n == f.v
  | .le => f.z || f.n != f.v

/-! ### RISC -/

/-- `Add(a, b, c)` of R400: the result and the carry. -/
def riscAdd (a b : Long) (c : Bool) : Long × Bool :=
  let t := a.toNat + b.toNat + c.toNat
  (BitVec.ofNat 32 t, decide (2 ^ 32 ≤ t))

/-- `Sub(a, b, c)` of R400: the result and the borrow. -/
def riscSub (a b : Long) (c : Bool) : Long × Bool :=
  let t : Int := a.toNat - b.toNat - c.toNat
  (BitVec.ofInt 32 t, decide (t < 0))

/-- The condition test of JUMP and JR (R204). -/
def riscCond (f2 : BitVec 5) (r : Risc) : Bool :=
  let f := if f2.getLsbD 4 then r.n else r.c
  (!f2.getLsbD 0 || !r.z) && (!f2.getLsbD 1 || r.z) && (!f2.getLsbD 2 || !f) && (!f2.getLsbD 3 || f)

end Sys2Proof.Machine
end

