-- ==== Sys2Proof/WellFormed.lean ====
section
/-! DEFINITION. Which instructions an encoding exists for: the effective-address classes and the other constraints of
the opcode map (R176, R180), and how many extension words follow the operation word (R170). -/
namespace Sys2Proof

namespace EAClass

/-- The modes a class admits, the size aside (R176). -/
def admitsMode : EAClass → EA → Bool
  | .all, _ => true
  | .data, .an _ => false
  | .data, _ => true
  | .dataNoImm, .an _ => false
  | .dataNoImm, .imm => false
  | .dataNoImm, _ => true
  | .dataAlt, .an _ => false
  | .dataAlt, .pcDisp => false
  | .dataAlt, .pcIndex => false
  | .dataAlt, .imm => false
  | .dataAlt, _ => true
  | .memAlt, .dn _ => false
  | .memAlt, .an _ => false
  | .memAlt, .pcDisp => false
  | .memAlt, .pcIndex => false
  | .memAlt, .imm => false
  | .memAlt, _ => true
  | .alt, .pcDisp => false
  | .alt, .pcIndex => false
  | .alt, .imm => false
  | .alt, _ => true
  | .control, .ind _ => true
  | .control, .disp _ => true
  | .control, .index _ => true
  | .control, .absW => true
  | .control, .absL => true
  | .control, .pcDisp => true
  | .control, .pcIndex => true
  | .control, _ => false
  | .controlAltPredec, .ind _ => true
  | .controlAltPredec, .predec _ => true
  | .controlAltPredec, .disp _ => true
  | .controlAltPredec, .index _ => true
  | .controlAltPredec, .absW => true
  | .controlAltPredec, .absL => true
  | .controlAltPredec, _ => false
  | .controlPostinc, .ind _ => true
  | .controlPostinc, .postinc _ => true
  | .controlPostinc, .disp _ => true
  | .controlPostinc, .index _ => true
  | .controlPostinc, .absW => true
  | .controlPostinc, .absL => true
  | .controlPostinc, .pcDisp => true
  | .controlPostinc, .pcIndex => true
  | .controlPostinc, _ => false

/-- The modes a class admits for an operand of the given size: with byte size, `An` is excluded (R176). -/
def admits (cls : EAClass) (sz : Size) (ea : EA) : Bool :=
  cls.admitsMode ea && !(sz == .b && match ea with | .an _ => true | _ => false)

end EAClass

namespace LongSize

/-- The size as an operand size. -/
@[reducible] def toSize : LongSize → Size
  | .w => .w
  | .l => .l

end LongSize

namespace EA

/-- Extension words of a mode for an operand of the given size (R172). -/
def extWords : EA → Size → Nat
  | .dn _, _ => 0
  | .an _, _ => 0
  | .ind _, _ => 0
  | .postinc _, _ => 0
  | .predec _, _ => 0
  | .disp _, _ => 1
  | .index _, _ => 1
  | .absW, _ => 1
  | .absL, _ => 2
  | .pcDisp, _ => 1
  | .pcIndex, _ => 1
  | .imm, .b => 1
  | .imm, .w => 1
  | .imm, .l => 2

end EA

namespace Size

/-- Words an immediate operand of the size takes (R174). -/
def immWords : Size → Nat
  | .b => 1
  | .w => 1
  | .l => 2

end Size

namespace Instr

/-- The constraints of the row (R180, R176). The constraint of a row whose ea takes no size is that of its operand.
A RISC row has none (R205). -/
def wellFormed : Instr → Bool
  | .oriToCcr => true
  | .oriToSr => true
  | .andiToCcr => true
  | .andiToSr => true
  | .eoriToCcr => true
  | .eoriToSr => true
  | .ori sz ea => EAClass.dataAlt.admits sz ea
  | .andi sz ea => EAClass.dataAlt.admits sz ea
  | .subi sz ea => EAClass.dataAlt.admits sz ea
  | .addi sz ea => EAClass.dataAlt.admits sz ea
  | .eori sz ea => EAClass.dataAlt.admits sz ea
  | .cmpi sz ea => EAClass.dataAlt.admits sz ea
  | .btstImm ea => EAClass.dataNoImm.admits .b ea
  | .bchgImm ea => EAClass.dataAlt.admits .b ea
  | .bclrImm ea => EAClass.dataAlt.admits .b ea
  | .bsetImm ea => EAClass.dataAlt.admits .b ea
  | .movep _ _ _ _ => true
  | .btstReg _ ea => EAClass.data.admits .b ea
  | .bchgReg _ ea => EAClass.dataAlt.admits .b ea
  | .bclrReg _ ea => EAClass.dataAlt.admits .b ea
  | .bsetReg _ ea => EAClass.dataAlt.admits .b ea
  | .moveaL _ ea => EAClass.all.admits .l ea
  | .moveaW _ ea => EAClass.all.admits .w ea
  | .moveB dst src => EAClass.all.admits .b src && EAClass.dataAlt.admits .b dst
  | .moveL dst src => EAClass.all.admits .l src && EAClass.dataAlt.admits .l dst
  | .moveW dst src => EAClass.all.admits .w src && EAClass.dataAlt.admits .w dst
  | .illegal => true
  | .reset => true
  | .nop => true
  | .stop => true
  | .rte => true
  | .rts => true
  | .trapv => true
  | .rtr => true
  | .trap _ => true
  | .link _ => true
  | .unlk _ => true
  | .moveAnUsp _ => true
  | .moveUspAn _ => true
  | .jsr ea => EAClass.control.admits .l ea
  | .jmp ea => EAClass.control.admits .l ea
  | .swap _ => true
  | .pea ea => EAClass.control.admits .l ea
  | .extW _ => true
  | .extL _ => true
  | .movemRegsEa sz ea => EAClass.controlAltPredec.admits sz.toSize ea
  | .movemEaRegs sz ea => EAClass.controlPostinc.admits sz.toSize ea
  | .nbcd ea => EAClass.dataAlt.admits .b ea
  | .tas ea => EAClass.dataAlt.admits .b ea
  | .tst sz ea => EAClass.dataAlt.admits sz ea
  | .moveSrEa ea => EAClass.dataAlt.admits .w ea
  | .moveEaCcr ea => EAClass.data.admits .w ea
  | .moveEaSr ea => EAClass.data.admits .w ea
  | .negx sz ea => EAClass.dataAlt.admits sz ea
  | .clr sz ea => EAClass.dataAlt.admits sz ea
  | .neg sz ea => EAClass.dataAlt.admits sz ea
  | .notEa sz ea => EAClass.dataAlt.admits sz ea
  | .chk _ ea => EAClass.data.admits .w ea
  | .lea _ ea => EAClass.control.admits .l ea
  | .dbcc _ _ => true
  | .scc _ ea => EAClass.dataAlt.admits .b ea
  | .addq _ sz ea => EAClass.alt.admits sz ea
  | .subq _ sz ea => EAClass.alt.admits sz ea
  | .bra _ => true
  | .bsr _ => true
  | .bcc c _ => c != .t && c != .f
  | .moveq _ _ => true
  | .divu _ ea => EAClass.data.admits .w ea
  | .divs _ ea => EAClass.data.admits .w ea
  | .sbcd _ _ _ => true
  | .orEaDn _ sz ea => EAClass.data.admits sz ea
  | .orDnEa _ sz ea => EAClass.memAlt.admits sz ea
  | .subaW _ ea => EAClass.all.admits .w ea
  | .subaL _ ea => EAClass.all.admits .l ea
  | .subx _ _ _ _ => true
  | .subEaDn _ sz ea => EAClass.all.admits sz ea
  | .subDnEa _ sz ea => EAClass.memAlt.admits sz ea
  | .lineA _ => true
  | .cmpaW _ ea => EAClass.all.admits .w ea
  | .cmpaL _ ea => EAClass.all.admits .l ea
  | .cmpm _ _ _ => true
  | .cmp _ sz ea => EAClass.all.admits sz ea
  | .eor _ sz ea => EAClass.dataAlt.admits sz ea
  | .mulu _ ea => EAClass.data.admits .w ea
  | .muls _ ea => EAClass.data.admits .w ea
  | .abcd _ _ _ => true
  | .exgDD _ _ => true
  | .exgAA _ _ => true
  | .exgDA _ _ => true
  | .andEaDn _ sz ea => EAClass.data.admits sz ea
  | .andDnEa _ sz ea => EAClass.memAlt.admits sz ea
  | .addaW _ ea => EAClass.all.admits .w ea
  | .addaL _ ea => EAClass.all.admits .l ea
  | .addx _ _ _ _ => true
  | .addEaDn _ sz ea => EAClass.all.admits sz ea
  | .addDnEa _ sz ea => EAClass.memAlt.admits sz ea
  | .asrEa ea => EAClass.memAlt.admits .w ea
  | .aslEa ea => EAClass.memAlt.admits .w ea
  | .lsrEa ea => EAClass.memAlt.admits .w ea
  | .lslEa ea => EAClass.memAlt.admits .w ea
  | .roxrEa ea => EAClass.memAlt.admits .w ea
  | .roxlEa ea => EAClass.memAlt.admits .w ea
  | .rorEa ea => EAClass.memAlt.admits .w ea
  | .rolEa ea => EAClass.memAlt.admits .w ea
  | .asrDn _ _ _ => true
  | .aslDn _ _ _ => true
  | .lsrDn _ _ _ => true
  | .lslDn _ _ _ => true
  | .roxrDn _ _ _ => true
  | .roxlDn _ _ _ => true
  | .rorDn _ _ _ => true
  | .rolDn _ _ _ => true
  | .lineF _ => true
  | .rAdd _ _ _ => true
  | .rAddc _ _ _ => true
  | .rAddq _ _ _ => true
  | .rAddqt _ _ _ => true
  | .rSub _ _ _ => true
  | .rSubc _ _ _ => true
  | .rSubq _ _ _ => true
  | .rSubqt _ _ _ => true
  | .rNeg _ _ => true
  | .rAnd _ _ _ => true
  | .rOr _ _ _ => true
  | .rXor _ _ _ => true
  | .rNot _ _ => true
  | .rBtst _ _ _ => true
  | .rBset _ _ _ => true
  | .rBclr _ _ _ => true
  | .rMult _ _ _ => true
  | .rImult _ _ _ => true
  | .rImultn _ _ _ => true
  | .rResmac _ _ => true
  | .rImacn _ _ _ => true
  | .rDiv _ _ _ => true
  | .rAbs _ _ => true
  | .rSh _ _ _ => true
  | .rShlq _ _ _ => true
  | .rShrq _ _ _ => true
  | .rSha _ _ _ => true
  | .rSharq _ _ _ => true
  | .rRor _ _ _ => true
  | .rRorq _ _ _ => true
  | .rCmp _ _ _ => true
  | .rCmpq _ _ _ => true
  | .gSat8 _ => true
  | .dSubqmod _ _ => true
  | .gSat16 _ => true
  | .dSat16s _ => true
  | .rMove _ _ _ => true
  | .rMoveq _ _ _ => true
  | .rMoveta _ _ _ => true
  | .rMovefa _ _ _ => true
  | .rMovei _ _ => true
  | .rLoadb _ _ _ => true
  | .rLoadw _ _ _ => true
  | .rLoad _ _ _ => true
  | .gLoadp _ _ => true
  | .dSat32s _ => true
  | .rLoadR14q _ _ _ => true
  | .rLoadR15q _ _ _ => true
  | .rStoreb _ _ _ => true
  | .rStorew _ _ _ => true
  | .rStore _ _ _ => true
  | .gStorep _ _ => true
  | .dMirror _ => true
  | .rStoreR14q _ _ _ => true
  | .rStoreR15q _ _ _ => true
  | .rMovePc _ _ => true
  | .rJump _ _ _ => true
  | .rJr _ _ _ => true
  | .rMmult _ _ _ => true
  | .rMtoi _ _ _ => true
  | .rNormi _ _ _ => true
  | .rNop _ => true
  | .rLoadR14m _ _ _ => true
  | .rLoadR15m _ _ _ => true
  | .rStoreR14m _ _ _ => true
  | .rStoreR15m _ _ _ => true
  | .gSat24 _ => true
  | .dReserved62 => true
  | .gPack _ => true
  | .gUnpack _ => true
  | .dAddqmod _ _ => true

/-- The processor whose table the row stands in (R180, R203). -/
def role : Instr → Role
  | .oriToCcr => .cpu
  | .oriToSr => .cpu
  | .andiToCcr => .cpu
  | .andiToSr => .cpu
  | .eoriToCcr => .cpu
  | .eoriToSr => .cpu
  | .ori _ _ => .cpu
  | .andi _ _ => .cpu
  | .subi _ _ => .cpu
  | .addi _ _ => .cpu
  | .eori _ _ => .cpu
  | .cmpi _ _ => .cpu
  | .btstImm _ => .cpu
  | .bchgImm _ => .cpu
  | .bclrImm _ => .cpu
  | .bsetImm _ => .cpu
  | .movep _ _ _ _ => .cpu
  | .btstReg _ _ => .cpu
  | .bchgReg _ _ => .cpu
  | .bclrReg _ _ => .cpu
  | .bsetReg _ _ => .cpu
  | .moveaL _ _ => .cpu
  | .moveaW _ _ => .cpu
  | .moveB _ _ => .cpu
  | .moveL _ _ => .cpu
  | .moveW _ _ => .cpu
  | .illegal => .cpu
  | .reset => .cpu
  | .nop => .cpu
  | .stop => .cpu
  | .rte => .cpu
  | .rts => .cpu
  | .trapv => .cpu
  | .rtr => .cpu
  | .trap _ => .cpu
  | .link _ => .cpu
  | .unlk _ => .cpu
  | .moveAnUsp _ => .cpu
  | .moveUspAn _ => .cpu
  | .jsr _ => .cpu
  | .jmp _ => .cpu
  | .swap _ => .cpu
  | .pea _ => .cpu
  | .extW _ => .cpu
  | .extL _ => .cpu
  | .movemRegsEa _ _ => .cpu
  | .movemEaRegs _ _ => .cpu
  | .nbcd _ => .cpu
  | .tas _ => .cpu
  | .tst _ _ => .cpu
  | .moveSrEa _ => .cpu
  | .moveEaCcr _ => .cpu
  | .moveEaSr _ => .cpu
  | .negx _ _ => .cpu
  | .clr _ _ => .cpu
  | .neg _ _ => .cpu
  | .notEa _ _ => .cpu
  | .chk _ _ => .cpu
  | .lea _ _ => .cpu
  | .dbcc _ _ => .cpu
  | .scc _ _ => .cpu
  | .addq _ _ _ => .cpu
  | .subq _ _ _ => .cpu
  | .bra _ => .cpu
  | .bsr _ => .cpu
  | .bcc _ _ => .cpu
  | .moveq _ _ => .cpu
  | .divu _ _ => .cpu
  | .divs _ _ => .cpu
  | .sbcd _ _ _ => .cpu
  | .orEaDn _ _ _ => .cpu
  | .orDnEa _ _ _ => .cpu
  | .subaW _ _ => .cpu
  | .subaL _ _ => .cpu
  | .subx _ _ _ _ => .cpu
  | .subEaDn _ _ _ => .cpu
  | .subDnEa _ _ _ => .cpu
  | .lineA _ => .cpu
  | .cmpaW _ _ => .cpu
  | .cmpaL _ _ => .cpu
  | .cmpm _ _ _ => .cpu
  | .cmp _ _ _ => .cpu
  | .eor _ _ _ => .cpu
  | .mulu _ _ => .cpu
  | .muls _ _ => .cpu
  | .abcd _ _ _ => .cpu
  | .exgDD _ _ => .cpu
  | .exgAA _ _ => .cpu
  | .exgDA _ _ => .cpu
  | .andEaDn _ _ _ => .cpu
  | .andDnEa _ _ _ => .cpu
  | .addaW _ _ => .cpu
  | .addaL _ _ => .cpu
  | .addx _ _ _ _ => .cpu
  | .addEaDn _ _ _ => .cpu
  | .addDnEa _ _ _ => .cpu
  | .asrEa _ => .cpu
  | .aslEa _ => .cpu
  | .lsrEa _ => .cpu
  | .lslEa _ => .cpu
  | .roxrEa _ => .cpu
  | .roxlEa _ => .cpu
  | .rorEa _ => .cpu
  | .rolEa _ => .cpu
  | .asrDn _ _ _ => .cpu
  | .aslDn _ _ _ => .cpu
  | .lsrDn _ _ _ => .cpu
  | .lslDn _ _ _ => .cpu
  | .roxrDn _ _ _ => .cpu
  | .roxlDn _ _ _ => .cpu
  | .rorDn _ _ _ => .cpu
  | .rolDn _ _ _ => .cpu
  | .lineF _ => .cpu
  | .rAdd u _ _ => .risc u
  | .rAddc u _ _ => .risc u
  | .rAddq u _ _ => .risc u
  | .rAddqt u _ _ => .risc u
  | .rSub u _ _ => .risc u
  | .rSubc u _ _ => .risc u
  | .rSubq u _ _ => .risc u
  | .rSubqt u _ _ => .risc u
  | .rNeg u _ => .risc u
  | .rAnd u _ _ => .risc u
  | .rOr u _ _ => .risc u
  | .rXor u _ _ => .risc u
  | .rNot u _ => .risc u
  | .rBtst u _ _ => .risc u
  | .rBset u _ _ => .risc u
  | .rBclr u _ _ => .risc u
  | .rMult u _ _ => .risc u
  | .rImult u _ _ => .risc u
  | .rImultn u _ _ => .risc u
  | .rResmac u _ => .risc u
  | .rImacn u _ _ => .risc u
  | .rDiv u _ _ => .risc u
  | .rAbs u _ => .risc u
  | .rSh u _ _ => .risc u
  | .rShlq u _ _ => .risc u
  | .rShrq u _ _ => .risc u
  | .rSha u _ _ => .risc u
  | .rSharq u _ _ => .risc u
  | .rRor u _ _ => .risc u
  | .rRorq u _ _ => .risc u
  | .rCmp u _ _ => .risc u
  | .rCmpq u _ _ => .risc u
  | .gSat8 _ => .risc .gpu
  | .dSubqmod _ _ => .risc .dsp
  | .gSat16 _ => .risc .gpu
  | .dSat16s _ => .risc .dsp
  | .rMove u _ _ => .risc u
  | .rMoveq u _ _ => .risc u
  | .rMoveta u _ _ => .risc u
  | .rMovefa u _ _ => .risc u
  | .rMovei u _ => .risc u
  | .rLoadb u _ _ => .risc u
  | .rLoadw u _ _ => .risc u
  | .rLoad u _ _ => .risc u
  | .gLoadp _ _ => .risc .gpu
  | .dSat32s _ => .risc .dsp
  | .rLoadR14q u _ _ => .risc u
  | .rLoadR15q u _ _ => .risc u
  | .rStoreb u _ _ => .risc u
  | .rStorew u _ _ => .risc u
  | .rStore u _ _ => .risc u
  | .gStorep _ _ => .risc .gpu
  | .dMirror _ => .risc .dsp
  | .rStoreR14q u _ _ => .risc u
  | .rStoreR15q u _ _ => .risc u
  | .rMovePc u _ => .risc u
  | .rJump u _ _ => .risc u
  | .rJr u _ _ => .risc u
  | .rMmult u _ _ => .risc u
  | .rMtoi u _ _ => .risc u
  | .rNormi u _ _ => .risc u
  | .rNop u => .risc u
  | .rLoadR14m u _ _ => .risc u
  | .rLoadR15m u _ _ => .risc u
  | .rStoreR14m u _ _ => .risc u
  | .rStoreR15m u _ _ => .risc u
  | .gSat24 _ => .risc .gpu
  | .dReserved62 => .risc .dsp
  | .gPack _ => .risc .gpu
  | .gUnpack _ => .risc .gpu
  | .dAddqmod _ _ => .risc .dsp

/-- The extension words after the operation word (R170, R172, R174, R177, R202). -/
def extWords : Instr → Nat
  | .oriToCcr => 1
  | .oriToSr => 1
  | .andiToCcr => 1
  | .andiToSr => 1
  | .eoriToCcr => 1
  | .eoriToSr => 1
  | .ori sz ea => sz.immWords + ea.extWords sz
  | .andi sz ea => sz.immWords + ea.extWords sz
  | .subi sz ea => sz.immWords + ea.extWords sz
  | .addi sz ea => sz.immWords + ea.extWords sz
  | .eori sz ea => sz.immWords + ea.extWords sz
  | .cmpi sz ea => sz.immWords + ea.extWords sz
  | .btstImm ea => 1 + ea.extWords .b
  | .bchgImm ea => 1 + ea.extWords .b
  | .bclrImm ea => 1 + ea.extWords .b
  | .bsetImm ea => 1 + ea.extWords .b
  | .movep _ _ _ _ => 1
  | .btstReg _ ea => ea.extWords .b
  | .bchgReg _ ea => ea.extWords .b
  | .bclrReg _ ea => ea.extWords .b
  | .bsetReg _ ea => ea.extWords .b
  | .moveaL _ ea => ea.extWords .l
  | .moveaW _ ea => ea.extWords .w
  | .moveB dst src => src.extWords .b + dst.extWords .b
  | .moveL dst src => src.extWords .l + dst.extWords .l
  | .moveW dst src => src.extWords .w + dst.extWords .w
  | .illegal => 0
  | .reset => 0
  | .nop => 0
  | .stop => 1
  | .rte => 0
  | .rts => 0
  | .trapv => 0
  | .rtr => 0
  | .trap _ => 0
  | .link _ => 1
  | .unlk _ => 0
  | .moveAnUsp _ => 0
  | .moveUspAn _ => 0
  | .jsr ea => ea.extWords .w
  | .jmp ea => ea.extWords .w
  | .swap _ => 0
  | .pea ea => ea.extWords .w
  | .extW _ => 0
  | .extL _ => 0
  | .movemRegsEa sz ea => 1 + ea.extWords sz.toSize
  | .movemEaRegs sz ea => 1 + ea.extWords sz.toSize
  | .nbcd ea => ea.extWords .b
  | .tas ea => ea.extWords .b
  | .tst sz ea => ea.extWords sz
  | .moveSrEa ea => ea.extWords .w
  | .moveEaCcr ea => ea.extWords .w
  | .moveEaSr ea => ea.extWords .w
  | .negx sz ea => ea.extWords sz
  | .clr sz ea => ea.extWords sz
  | .neg sz ea => ea.extWords sz
  | .notEa sz ea => ea.extWords sz
  | .chk _ ea => ea.extWords .w
  | .lea _ ea => ea.extWords .w
  | .dbcc _ _ => 1
  | .scc _ ea => ea.extWords .b
  | .addq _ sz ea => ea.extWords sz
  | .subq _ sz ea => ea.extWords sz
  | .bra disp => if disp = 0 then 1 else 0
  | .bsr disp => if disp = 0 then 1 else 0
  | .bcc _ disp => if disp = 0 then 1 else 0
  | .moveq _ _ => 0
  | .divu _ ea => ea.extWords .w
  | .divs _ ea => ea.extWords .w
  | .sbcd _ _ _ => 0
  | .orEaDn _ sz ea => ea.extWords sz
  | .orDnEa _ sz ea => ea.extWords sz
  | .subaW _ ea => ea.extWords .w
  | .subaL _ ea => ea.extWords .l
  | .subx _ _ _ _ => 0
  | .subEaDn _ sz ea => ea.extWords sz
  | .subDnEa _ sz ea => ea.extWords sz
  | .lineA _ => 0
  | .cmpaW _ ea => ea.extWords .w
  | .cmpaL _ ea => ea.extWords .l
  | .cmpm _ _ _ => 0
  | .cmp _ sz ea => ea.extWords sz
  | .eor _ sz ea => ea.extWords sz
  | .mulu _ ea => ea.extWords .w
  | .muls _ ea => ea.extWords .w
  | .abcd _ _ _ => 0
  | .exgDD _ _ => 0
  | .exgAA _ _ => 0
  | .exgDA _ _ => 0
  | .andEaDn _ sz ea => ea.extWords sz
  | .andDnEa _ sz ea => ea.extWords sz
  | .addaW _ ea => ea.extWords .w
  | .addaL _ ea => ea.extWords .l
  | .addx _ _ _ _ => 0
  | .addEaDn _ sz ea => ea.extWords sz
  | .addDnEa _ sz ea => ea.extWords sz
  | .asrEa ea => ea.extWords .w
  | .aslEa ea => ea.extWords .w
  | .lsrEa ea => ea.extWords .w
  | .lslEa ea => ea.extWords .w
  | .roxrEa ea => ea.extWords .w
  | .roxlEa ea => ea.extWords .w
  | .rorEa ea => ea.extWords .w
  | .rolEa ea => ea.extWords .w
  | .asrDn _ _ _ => 0
  | .aslDn _ _ _ => 0
  | .lsrDn _ _ _ => 0
  | .lslDn _ _ _ => 0
  | .roxrDn _ _ _ => 0
  | .roxlDn _ _ _ => 0
  | .rorDn _ _ _ => 0
  | .rolDn _ _ _ => 0
  | .lineF _ => 0
  | .rAdd _ _ _ => 0
  | .rAddc _ _ _ => 0
  | .rAddq _ _ _ => 0
  | .rAddqt _ _ _ => 0
  | .rSub _ _ _ => 0
  | .rSubc _ _ _ => 0
  | .rSubq _ _ _ => 0
  | .rSubqt _ _ _ => 0
  | .rNeg _ _ => 0
  | .rAnd _ _ _ => 0
  | .rOr _ _ _ => 0
  | .rXor _ _ _ => 0
  | .rNot _ _ => 0
  | .rBtst _ _ _ => 0
  | .rBset _ _ _ => 0
  | .rBclr _ _ _ => 0
  | .rMult _ _ _ => 0
  | .rImult _ _ _ => 0
  | .rImultn _ _ _ => 0
  | .rResmac _ _ => 0
  | .rImacn _ _ _ => 0
  | .rDiv _ _ _ => 0
  | .rAbs _ _ => 0
  | .rSh _ _ _ => 0
  | .rShlq _ _ _ => 0
  | .rShrq _ _ _ => 0
  | .rSha _ _ _ => 0
  | .rSharq _ _ _ => 0
  | .rRor _ _ _ => 0
  | .rRorq _ _ _ => 0
  | .rCmp _ _ _ => 0
  | .rCmpq _ _ _ => 0
  | .gSat8 _ => 0
  | .dSubqmod _ _ => 0
  | .gSat16 _ => 0
  | .dSat16s _ => 0
  | .rMove _ _ _ => 0
  | .rMoveq _ _ _ => 0
  | .rMoveta _ _ _ => 0
  | .rMovefa _ _ _ => 0
  | .rMovei _ _ => 2
  | .rLoadb _ _ _ => 0
  | .rLoadw _ _ _ => 0
  | .rLoad _ _ _ => 0
  | .gLoadp _ _ => 0
  | .dSat32s _ => 0
  | .rLoadR14q _ _ _ => 0
  | .rLoadR15q _ _ _ => 0
  | .rStoreb _ _ _ => 0
  | .rStorew _ _ _ => 0
  | .rStore _ _ _ => 0
  | .gStorep _ _ => 0
  | .dMirror _ => 0
  | .rStoreR14q _ _ _ => 0
  | .rStoreR15q _ _ _ => 0
  | .rMovePc _ _ => 0
  | .rJump _ _ _ => 0
  | .rJr _ _ _ => 0
  | .rMmult _ _ _ => 0
  | .rMtoi _ _ _ => 0
  | .rNormi _ _ _ => 0
  | .rNop _ => 0
  | .rLoadR14m _ _ _ => 0
  | .rLoadR15m _ _ _ => 0
  | .rStoreR14m _ _ _ => 0
  | .rStoreR15m _ _ _ => 0
  | .gSat24 _ => 0
  | .dReserved62 => 0
  | .gPack _ => 0
  | .gUnpack _ => 0
  | .dAddqmod _ _ => 0

end Instr
end Sys2Proof
end

