-- ==== Sys2Proof/Machine/Operands.lean ====
section
/-! DEFINITION. Every operand form: the effective addresses of the CPU (R230 to R232), its immediates (R174), its
small fields (R178), and the readings of f1 on a RISC unit (R201). -/
namespace Sys2Proof.Machine

/-! ### CPU -/

/-- A location (R231). -/
inductive Loc where
  | dreg (r : Fin 8)
  | areg (r : Fin 8)
  | mem (a : Long)
  /-- An immediate, in the low bits. -/
  | imm (v : Long)
deriving DecidableEq, Repr

/-- How far postincrement and predecrement move an address register (R231). -/
def eaStep (r : Fin 8) (sz : Size) : Long :=
  match sz with
  | .b => if r = 7 then 2 else 1
  | .w => 2
  | .l => 4

/-- `Index(x)`: the index register of a brief extension word (R173, R231). -/
def indexValue (x : Half) (s : State) : Long :=
  let k : Fin 8 := (x.extractLsb' 12 3).toFin
  let r := if x.getLsbD 15 then s.areg k else s.dreg k
  if x.getLsbD 11 then r else (r.setWidth 16).signExtend 32

/-- The displacement of a brief extension word (R173). -/
def indexDisp (x : Half) : Long := (x.setWidth 8).signExtend 32

/-- The immediate operand of a size, fetched (R174). -/
def fetchImm (sz : Size) (s : State) : BitVec sz.bits × State :=
  match sz with
  | .b =>
    let w := fetch16 .cpu s
    (w.1.setWidth 8, w.2)
  | .w => fetch16 .cpu s
  | .l => fetch32 .cpu s

/-- `LocEA(mode, reg, sz)` (R231): the location, with the mode's fetches and register updates done once. -/
def locEA (ea : EA) (sz : Size) (s : State) : Loc × State :=
  match ea with
  | .dn r => (.dreg r, s)
  | .an r => (.areg r, s)
  | .ind r => (.mem (s.areg r), s)
  | .postinc r => (.mem (s.areg r), s.setAreg r (s.areg r + eaStep r sz))
  | .predec r =>
    let s := s.setAreg r (s.areg r - eaStep r sz)
    (.mem (s.areg r), s)
  | .disp r =>
    let d := fetch16 .cpu s
    (.mem (d.2.areg r + d.1.signExtend 32), d.2)
  | .index r =>
    let x := fetch16 .cpu s
    (.mem (x.2.areg r + indexDisp x.1 + indexValue x.1 x.2), x.2)
  | .absW =>
    let w := fetch16 .cpu s
    (.mem (w.1.signExtend 32), w.2)
  | .absL =>
    let a := fetch32 .cpu s
    (.mem a.1, a.2)
  | .pcDisp =>
    let d := fetch16 .cpu s
    (.mem (s.cpu.pc + d.1.signExtend 32), d.2)
  | .pcIndex =>
    let x := fetch16 .cpu s
    (.mem (s.cpu.pc + indexDisp x.1 + indexValue x.1 x.2), x.2)
  | .imm =>
    let v := fetchImm sz s
    (.imm (v.1.setWidth 32), v.2)

/-- The address of a memory location. The other locations are outside the `control` class. -/
def Loc.addr : Loc → Long
  | .mem a => a
  | .dreg _ => 0
  | .areg _ => 0
  | .imm _ => 0

/-- `AddrEA(mode, reg)` (R231): the address of a `control` mode, memory untouched. -/
def addrEA (ea : EA) (s : State) : Long × State :=
  let l := locEA ea .l s
  (l.1.addr, l.2)

/-- `ReadLoc(loc, sz)` (R232). -/
def readLoc (loc : Loc) (sz : Size) (s : State) : BitVec sz.bits × State :=
  match loc with
  | .dreg r => (s.dregAt sz r, s)
  | .areg r => ((s.areg r).setWidth sz.bits, s)
  | .mem a => memRead .cpu sz a s
  | .imm v => (v.setWidth sz.bits, s)

/-- `WriteLoc(loc, sz, v)` (R232); a word to an address register is sign-extended (R236). -/
def writeLoc (loc : Loc) (sz : Size) (v : BitVec sz.bits) (s : State) : State :=
  match loc with
  | .dreg r => s.setDregAt sz r v
  | .areg r => s.setAreg r (v.signExtend 32)
  | .mem a => memWrite .cpu sz a v s
  | .imm _ => s

/-- `ReadLoc(LocEA(mode, reg, sz), sz)`: a source operand (R235). -/
def readEA (ea : EA) (sz : Size) (s : State) : BitVec sz.bits × State :=
  let l := locEA ea sz s
  readLoc l.1 sz l.2

/-- `WriteLoc(LocEA(mode, reg, sz), sz, v)`: a destination that is not read. -/
def writeEA (ea : EA) (sz : Size) (v : BitVec sz.bits) (s : State) : State :=
  let l := locEA ea sz s
  writeLoc l.1 sz v l.2

/-- Read, change and write one location, evaluated once (R232), then the flags (R235). The operation is given the old
value and the old condition codes. -/
def modifyEA (ea : EA) (sz : Size) (op : BitVec sz.bits → Ccr → BitVec sz.bits × Ccr) (s : State) : State :=
  let l := locEA ea sz s
  let d := readLoc l.1 sz l.2
  let r := op d.1 d.2.ccr
  (writeLoc l.1 sz r.1 d.2).setCcr r.2

/-- Change a data register and the flags: the operation is given the old value and the old condition codes. -/
def modifyDreg (r : Fin 8) (sz : Size) (op : BitVec sz.bits → Ccr → BitVec sz.bits × Ccr) (s : State) : State :=
  let v := op (s.dregAt sz r) s.ccr
  (s.setDregAt sz r v.1).setCcr v.2

/-- A word or long operand at 32 bits, the word sign-extended (R236). -/
def signed32 (sz : LongSize) (v : BitVec sz.toSize.bits) : Long := v.signExtend 32

/-- The constant of ADDQ and SUBQ: 0 means 8 (R178). -/
def quickValue (q : BitVec 3) : Nat := if q = 0 then 8 else q.toNat

/-- The count of a register shift (R178, R310). -/
def shiftCount (k : ShiftCount) (s : State) : Nat :=
  match k with
  | .imm q => quickValue q
  | .reg r => (s.dreg r).toNat % 64

/-- Register `i` of the MOVEM order D0 to D7, A0 to A7 (R179). -/
def movemReg (i : Nat) (s : State) : Long :=
  if h : i < 8 then s.dreg ⟨i, h⟩ else if h : i < 16 then s.areg ⟨i - 8, by omega⟩ else 0

/-- Write register `i` of the MOVEM order, all 32 bits (R244). -/
def setMovemReg (i : Nat) (v : Long) (s : State) : State :=
  if h : i < 8 then s.setDreg ⟨i, h⟩ v else if h : i < 16 then s.setAreg ⟨i - 8, by omega⟩ v else s

/-! ### RISC -/

/-- `q32(f1)`: 1 to 32 (R201). -/
def q32 (f : BitVec 5) : Nat := if f = 0 then 32 else f.toNat

/-- `q32(f1)` as an operand. -/
def q32Long (f : BitVec 5) : Long := BitVec.ofNat 32 (q32 f)

/-- `u5(f1)`: 0 to 31 (R201). -/
def u5 (f : BitVec 5) : Nat := f.toNat

/-- `s5(f1)`: -16 to 15, at 32 bits (R201). -/
def s5 (f : BitVec 5) : Long := f.signExtend 32

/-- `shl(f1)`: 1 to 32 (R201). -/
def shlCount (f : BitVec 5) : Nat := 32 - f.toNat

/-- `S16(v)`: the low 16 bits as a signed integer (R400). -/
def s16 (v : Long) : Int := (v.setWidth 16).toInt

/-- `InLocal(a)`: the address lies in the unit's own local memory (R450). -/
def inLocal (u : Coproc) (a : Long) : Bool :=
  let x := a.toNat % 0x1000000
  decide (Config.localBase u ≤ x) && decide (x < Config.localBase u + Config.localSize u)

/-- `LoadNarrow(a, 1)` (R457). -/
def loadByte (u : Coproc) (a : Long) (s : State) : Long × State :=
  if inLocal u a then
    let r := readLong (.risc u) a s
    (r.1 &&& 0xFF, r.2)
  else
    let r := readByte (.risc u) a s
    (r.1.setWidth 32, r.2)

/-- `LoadNarrow(a, 2)` (R457). -/
def loadWord (u : Coproc) (a : Long) (s : State) : Long × State :=
  if inLocal u a then
    let r := readLong (.risc u) a s
    (r.1 &&& 0xFFFF, r.2)
  else
    let r := readWord (.risc u) a s
    (r.1.setWidth 32, r.2)

/-- `StoreNarrow(a, 1, v)` (R457). -/
def storeByte (u : Coproc) (a v : Long) (s : State) : State :=
  if inLocal u a then writeLong (.risc u) a (v &&& 0xFF) s
  else writeByte (.risc u) a (v.setWidth 8) s

/-- `StoreNarrow(a, 2, v)` (R457). -/
def storeWord (u : Coproc) (a v : Long) (s : State) : State :=
  if inLocal u a then writeLong (.risc u) a (v &&& 0xFFFF) s
  else writeWord (.risc u) a (v.setWidth 16) s

end Sys2Proof.Machine
end

