-- ==== Sys2Proof/Machine/CpuMove.lean ====
section
/-! DEFINITION. The CPU's data-movement instructions (40_cpu_common_and_data_movement.md). A meaning starts with `pc`
just past the operation word (log 1). -/
namespace Sys2Proof.Machine

/-- MOVE at a size (R240): the source is read before the destination's extension words are fetched. -/
def moveAt (sz : Size) (dst src : EA) (s : State) : State :=
  let v := readEA src sz s
  let s := writeEA dst sz v.1 v.2
  s.setCcr (stdFlags v.1 s.ccr)

/-- `MOVE.B` (R240). -/
def execMoveB (dst src : EA) (s : State) : Result := .next (moveAt .b dst src s)

/-- `MOVE.W` (R240). -/
def execMoveW (dst src : EA) (s : State) : Result := .next (moveAt .w dst src s)

/-- `MOVE.L` (R240). -/
def execMoveL (dst src : EA) (s : State) : Result := .next (moveAt .l dst src s)

/-- A word or long source operand at 32 bits, the word sign-extended (R236): what MOVEA, ADDA, SUBA and CMPA use. -/
def readAddrOperand (sz : LongSize) (ea : EA) (s : State) : Long × State :=
  let v := readEA ea sz.toSize s
  (signed32 sz v.1, v.2)

/-- MOVEA at a size (R241). -/
def moveaAt (sz : LongSize) (r : Fin 8) (ea : EA) (s : State) : State :=
  let v := readAddrOperand sz ea s
  v.2.setAreg r v.1

/-- `MOVEA.W` (R241). -/
def execMoveaW (r : Fin 8) (ea : EA) (s : State) : Result := .next (moveaAt .w r ea s)

/-- `MOVEA.L` (R241). -/
def execMoveaL (r : Fin 8) (ea : EA) (s : State) : Result := .next (moveaAt .l r ea s)

/-- `MOVEQ` (R242). -/
def execMoveq (r : Fin 8) (data : Byte) (s : State) : Result :=
  let v : Long := data.signExtend 32
  .next ((s.setDreg r v).setCcr (stdFlags v s.ccr))

/-- The bits of a MOVEM mask that are set, lowest first (R179). -/
def maskBits (mask : Half) : List Nat := (List.range 16).filter fun i => mask.getLsbD i

/-- MOVEM to memory upward from `a` (R243): registers in the order D0 to D7, A0 to A7. -/
def movemStoreUp (sz : LongSize) : List Nat → Long → State → State
  | [], _, s => s
  | i :: rest, a, s =>
    movemStoreUp sz rest (a + BitVec.ofNat 32 sz.toSize.bytes)
      (memWrite .cpu sz.toSize a ((movemReg i s).setWidth _) s)

/-- MOVEM to memory downward from `a`, in the order A7 to A0, D7 to D0 (R243); it answers the last address too. -/
def movemStoreDown (sz : LongSize) : List Nat → Long → State → Long × State
  | [], a, s => (a, s)
  | i :: rest, a, s =>
    let a := a - BitVec.ofNat 32 sz.toSize.bytes
    movemStoreDown sz rest a (memWrite .cpu sz.toSize a ((movemReg (15 - i) s).setWidth _) s)

/-- MOVEM from memory upward from `a` (R244); a word is sign-extended into the whole register. It answers the address
after the last operand too. -/
def movemLoad (sz : LongSize) : List Nat → Long → State → Long × State
  | [], a, s => (a, s)
  | i :: rest, a, s =>
    let v := memRead .cpu sz.toSize a s
    movemLoad sz rest (a + BitVec.ofNat 32 sz.toSize.bytes) (setMovemReg i (signed32 sz v.1) v.2)

/-- `MOVEM regs,ea` (R243). -/
def execMovemRegsEa (sz : LongSize) (ea : EA) (s : State) : Result :=
  let mask := fetch16 .cpu s
  match ea with
  | .predec r =>
    let d := movemStoreDown sz (maskBits mask.1) (mask.2.areg r) mask.2
    .next (d.2.setAreg r d.1)
  | ea =>
    let a := addrEA ea mask.2
    .next (movemStoreUp sz (maskBits mask.1) a.1 a.2)

/-- `MOVEM ea,regs` (R244): in postincrement mode the final address overrides a loaded value. -/
def execMovemEaRegs (sz : LongSize) (ea : EA) (s : State) : Result :=
  let mask := fetch16 .cpu s
  match ea with
  | .postinc r =>
    let d := movemLoad sz (maskBits mask.1) (mask.2.areg r) mask.2
    .next (d.2.setAreg r d.1)
  | ea =>
    let a := addrEA ea mask.2
    .next (movemLoad sz (maskBits mask.1) a.1 a.2).2

/-- MOVEP from a register: its bytes, most significant first, to every second address (R245). -/
def movepStore : List Byte → Long → State → State
  | [], _, s => s
  | b :: rest, a, s => movepStore rest (a + 2) (writeByte .cpu a b s)

/-- MOVEP to a register: two bytes of every second address (R245). -/
def movepLoadWord (a : Long) (s : State) : Half × State :=
  let b1 := readByte .cpu a s
  let b0 := readByte .cpu (a + 2) b1.2
  (b1.1 ++ b0.1, b0.2)

/-- `MOVEP` (R245). -/
def execMovep (r : Fin 8) (dir : MovepDir) (sz : LongSize) (a : Fin 8) (s : State) : Result :=
  let d := fetch16 .cpu s
  let addr := d.2.areg a + d.1.signExtend 32
  let v := d.2.dreg r
  match dir, sz with
  | .regToMem, .l =>
    .next (movepStore [v.extractLsb' 24 8, v.extractLsb' 16 8, v.extractLsb' 8 8, v.extractLsb' 0 8] addr d.2)
  | .regToMem, .w => .next (movepStore [v.extractLsb' 8 8, v.extractLsb' 0 8] addr d.2)
  | .memToReg, .l =>
    let hi := movepLoadWord addr d.2
    let lo := movepLoadWord (addr + 4) hi.2
    .next (lo.2.setDreg r (hi.1 ++ lo.1))
  | .memToReg, .w =>
    let w := movepLoadWord addr d.2
    .next (w.2.setDregAt .w r w.1)

/-- `LEA` (R246). -/
def execLea (r : Fin 8) (ea : EA) (s : State) : Result :=
  let a := addrEA ea s
  .next (a.2.setAreg r a.1)

/-- `PEA` (R247). -/
def execPea (ea : EA) (s : State) : Result :=
  let a := addrEA ea s
  .next (push32 a.1 a.2)

/-- `EXG Dx,Dy` (R248). -/
def execExgDD (x y : Fin 8) (s : State) : Result := .next ((s.setDreg x (s.dreg y)).setDreg y (s.dreg x))

/-- `EXG Ax,Ay` (R248). -/
def execExgAA (x y : Fin 8) (s : State) : Result := .next ((s.setAreg x (s.areg y)).setAreg y (s.areg x))

/-- `EXG Dx,Ay` (R248). -/
def execExgDA (x y : Fin 8) (s : State) : Result := .next ((s.setDreg x (s.areg y)).setAreg y (s.dreg x))

/-- `SWAP` (R249). -/
def execSwap (r : Fin 8) (s : State) : Result :=
  let v : Long := (s.dreg r).extractLsb' 0 16 ++ (s.dreg r).extractLsb' 16 16
  .next ((s.setDreg r v).setCcr (stdFlags v s.ccr))

/-- `LINK` (R250), step by step: with `n = 7` the value stored is A7 after the decrement. -/
def execLink (r : Fin 8) (s : State) : Result :=
  let d := fetch16 .cpu s
  let s := d.2.setAreg 7 (d.2.areg 7 - 4)
  let s := writeLong .cpu (s.areg 7) (s.areg r) s
  let s := s.setAreg r (s.areg 7)
  .next (s.setAreg 7 (s.areg 7 + d.1.signExtend 32))

/-- `UNLK` (R251), step by step. -/
def execUnlk (r : Fin 8) (s : State) : Result :=
  let s := s.setAreg 7 (s.areg r)
  let v := readLong .cpu (s.areg 7) s
  let s := v.2.setAreg r v.1
  .next (s.setAreg 7 (s.areg 7 + 4))

/-- `CLR` (R252): the destination is not read. -/
def execClr (sz : Size) (ea : EA) (s : State) : Result :=
  let s := writeEA ea sz 0 s
  .next (s.setCcr (stdFlags (0 : BitVec sz.bits) s.ccr))

end Sys2Proof.Machine
end

