-- ==== Sys2Proof/Machine/CpuArith.lean ====
section
/-! DEFINITION. The CPU's integer and decimal arithmetic (41_cpu_arithmetic.md). -/
namespace Sys2Proof.Machine

/-! ### Operations on a destination, with their flags -/

/-- Add a source to the destination (R260, R261). -/
def opAdd {n : Nat} (src : BitVec n) (d : BitVec n) (_ : Ccr) : BitVec n × Ccr :=
  (addResult src d false, addFlags src d false)

/-- Subtract a source from the destination (R260, R266). -/
def opSub {n : Nat} (src : BitVec n) (d : BitVec n) (_ : Ccr) : BitVec n × Ccr :=
  (subResult src d false, subFlags src d false)

/-- Add a source and X, Z sticky (R265). -/
def opAddx {n : Nat} (src : BitVec n) (d : BitVec n) (old : Ccr) : BitVec n × Ccr :=
  (addResult src d old.x, stickyZ old (addFlags src d old.x))

/-- Subtract a source and X, Z sticky (R270). -/
def opSubx {n : Nat} (src : BitVec n) (d : BitVec n) (old : Ccr) : BitVec n × Ccr :=
  (subResult src d old.x, stickyZ old (subFlags src d old.x))

/-- Negate the operand: it is the subtrahend (R275). -/
def opNeg {n : Nat} (d : BitVec n) (_ : Ccr) : BitVec n × Ccr := (subResult d 0 false, subFlags d 0 false)

/-- Negate the operand with X, Z sticky (R276). -/
def opNegx {n : Nat} (d : BitVec n) (old : Ccr) : BitVec n × Ccr :=
  (subResult d 0 old.x, stickyZ old (subFlags d 0 old.x))

/-- Add decimal (R283). -/
def opAbcd (src d : Byte) (old : Ccr) : Byte × Ccr :=
  let rc := decimalAdd src d old.x
  (rc.1, decimalFlags .abcd src d rc old)

/-- Subtract decimal (R284). -/
def opSbcd (src d : Byte) (old : Ccr) : Byte × Ccr :=
  let rc := decimalSub src d old.x
  (rc.1, decimalFlags .sbcd src d rc old)

/-- Negate decimal: the operand is the subtrahend of 0 (R285). -/
def opNbcd (d : Byte) (old : Ccr) : Byte × Ccr :=
  let rc := decimalSub d 0 old.x
  (rc.1, decimalFlags .nbcd d 0 rc old)

/-! ### Operand forms -/

/-- The form `<ea>,Dn`: the source is read, then the register is changed (R261, R266, R301, R303). -/
def eaToDreg (r : Fin 8) (sz : Size) (ea : EA) (op : BitVec sz.bits → BitVec sz.bits → Ccr → BitVec sz.bits × Ccr)
    (s : State) : State :=
  let v := readEA ea sz s
  modifyDreg r sz (op v.1) v.2

/-- The form `Dn,<ea>`: the register is read, then the location is changed (R261, R266, R301, R303). -/
def dregToEa (r : Fin 8) (sz : Size) (ea : EA) (op : BitVec sz.bits → BitVec sz.bits → Ccr → BitVec sz.bits × Ccr)
    (s : State) : State :=
  modifyEA ea sz (op (s.dregAt sz r)) s

/-- The form `#imm,<ea>`: the immediate is fetched first (R235, R263). -/
def immToEa (sz : Size) (ea : EA) (op : BitVec sz.bits → BitVec sz.bits → Ccr → BitVec sz.bits × Ccr) (s : State) :
    State :=
  let v := fetchImm sz s
  modifyEA ea sz (op v.1) v.2

/-- The forms of ADDX, SUBX, ABCD and SBCD: two data registers, or two predecremented locations, the source first
(R265). -/
def extendedForm (x : Fin 8) (sz : Size) (mode : XMode) (y : Fin 8)
    (op : BitVec sz.bits → BitVec sz.bits → Ccr → BitVec sz.bits × Ccr) (s : State) : State :=
  match mode with
  | .regs => modifyDreg x sz (op (s.dregAt sz y)) s
  | .predec =>
    let v := readEA (.predec y) sz s
    modifyEA (.predec x) sz (op v.1) v.2

/-! ### Addition -/

/-- `ADD ea,Dn` (R261). -/
def execAddEaDn (r : Fin 8) (sz : Size) (ea : EA) (s : State) : Result := .next (eaToDreg r sz ea opAdd s)

/-- `ADD Dn,ea` (R261). -/
def execAddDnEa (r : Fin 8) (sz : Size) (ea : EA) (s : State) : Result := .next (dregToEa r sz ea opAdd s)

/-- ADDA at a size (R262). -/
def addaAt (sz : LongSize) (r : Fin 8) (ea : EA) (s : State) : State :=
  let v := readAddrOperand sz ea s
  v.2.setAreg r (v.2.areg r + v.1)

/-- `ADDA.W` (R262). -/
def execAddaW (r : Fin 8) (ea : EA) (s : State) : Result := .next (addaAt .w r ea s)

/-- `ADDA.L` (R262). -/
def execAddaL (r : Fin 8) (ea : EA) (s : State) : Result := .next (addaAt .l r ea s)

/-- `ADDI` (R263). -/
def execAddi (sz : Size) (ea : EA) (s : State) : Result := .next (immToEa sz ea opAdd s)

/-- `ADDQ` (R264): all 32 bits and no flags on an address register. -/
def execAddq (q : BitVec 3) (sz : Size) (ea : EA) (s : State) : Result :=
  match ea with
  | .an r => .next (s.setAreg r (s.areg r + BitVec.ofNat 32 (quickValue q)))
  | ea => .next (modifyEA ea sz (opAdd (BitVec.ofNat sz.bits (quickValue q))) s)

/-- `ADDX` (R265). -/
def execAddx (x : Fin 8) (sz : Size) (mode : XMode) (y : Fin 8) (s : State) : Result :=
  .next (extendedForm x sz mode y opAddx s)

/-! ### Subtraction and comparison -/

/-- `SUB ea,Dn` (R266). -/
def execSubEaDn (r : Fin 8) (sz : Size) (ea : EA) (s : State) : Result := .next (eaToDreg r sz ea opSub s)

/-- `SUB Dn,ea` (R266). -/
def execSubDnEa (r : Fin 8) (sz : Size) (ea : EA) (s : State) : Result := .next (dregToEa r sz ea opSub s)

/-- SUBA at a size (R267). -/
def subaAt (sz : LongSize) (r : Fin 8) (ea : EA) (s : State) : State :=
  let v := readAddrOperand sz ea s
  v.2.setAreg r (v.2.areg r - v.1)

/-- `SUBA.W` (R267). -/
def execSubaW (r : Fin 8) (ea : EA) (s : State) : Result := .next (subaAt .w r ea s)

/-- `SUBA.L` (R267). -/
def execSubaL (r : Fin 8) (ea : EA) (s : State) : Result := .next (subaAt .l r ea s)

/-- `SUBI` (R268). -/
def execSubi (sz : Size) (ea : EA) (s : State) : Result := .next (immToEa sz ea opSub s)

/-- `SUBQ` (R269): all 32 bits and no flags on an address register. -/
def execSubq (q : BitVec 3) (sz : Size) (ea : EA) (s : State) : Result :=
  match ea with
  | .an r => .next (s.setAreg r (s.areg r - BitVec.ofNat 32 (quickValue q)))
  | ea => .next (modifyEA ea sz (opSub (BitVec.ofNat sz.bits (quickValue q))) s)

/-- `SUBX` (R270). -/
def execSubx (x : Fin 8) (sz : Size) (mode : XMode) (y : Fin 8) (s : State) : Result :=
  .next (extendedForm x sz mode y opSubx s)

/-- `CMP` (R271): nothing is written but the flags. -/
def execCmp (r : Fin 8) (sz : Size) (ea : EA) (s : State) : Result :=
  let v := readEA ea sz s
  .next (v.2.setCcr (cmpFlags v.1 (v.2.dregAt sz r) v.2.ccr))

/-- CMPA at a size: the comparison is at 32 bits (R272). -/
def cmpaAt (sz : LongSize) (r : Fin 8) (ea : EA) (s : State) : State :=
  let v := readAddrOperand sz ea s
  v.2.setCcr (cmpFlags v.1 (v.2.areg r) v.2.ccr)

/-- `CMPA.W` (R272). -/
def execCmpaW (r : Fin 8) (ea : EA) (s : State) : Result := .next (cmpaAt .w r ea s)

/-- `CMPA.L` (R272). -/
def execCmpaL (r : Fin 8) (ea : EA) (s : State) : Result := .next (cmpaAt .l r ea s)

/-- `CMPI` (R273). -/
def execCmpi (sz : Size) (ea : EA) (s : State) : Result :=
  let v := fetchImm sz s
  let d := readEA ea sz v.2
  .next (d.2.setCcr (cmpFlags v.1 d.1 d.2.ccr))

/-- `CMPM` (R274): the source is read first. -/
def execCmpm (x : Fin 8) (sz : Size) (y : Fin 8) (s : State) : Result :=
  let v := readEA (.postinc y) sz s
  let d := readEA (.postinc x) sz v.2
  .next (d.2.setCcr (cmpFlags v.1 d.1 d.2.ccr))

/-- `NEG` (R275). -/
def execNeg (sz : Size) (ea : EA) (s : State) : Result := .next (modifyEA ea sz opNeg s)

/-- `NEGX` (R276). -/
def execNegx (sz : Size) (ea : EA) (s : State) : Result := .next (modifyEA ea sz opNegx s)

/-- `EXT.W` (R277): bits 31:16 stay. -/
def execExtW (r : Fin 8) (s : State) : Result :=
  let v : Half := ((s.dreg r).setWidth 8).signExtend 16
  .next ((s.setDregAt .w r v).setCcr (stdFlags v s.ccr))

/-- `EXT.L` (R277). -/
def execExtL (r : Fin 8) (s : State) : Result :=
  let v : Long := ((s.dreg r).setWidth 16).signExtend 32
  .next ((s.setDreg r v).setCcr (stdFlags v s.ccr))

/-! ### Multiply and divide -/

/-- `MULU` (R278): exact in 32 bits. -/
def execMulu (r : Fin 8) (ea : EA) (s : State) : Result :=
  let v := readEA ea .w s
  let m : Half := v.2.dregAt .w r
  let p : Long := BitVec.ofNat 32 (BitVec.toNat v.1 * m.toNat)
  .next ((v.2.setDreg r p).setCcr (stdFlags p v.2.ccr))

/-- `MULS` (R281). -/
def execMuls (r : Fin 8) (ea : EA) (s : State) : Result :=
  let v := readEA ea .w s
  let m : Half := v.2.dregAt .w r
  let p : Long := BitVec.ofInt 32 (BitVec.toInt v.1 * m.toInt)
  .next ((v.2.setDreg r p).setCcr (stdFlags p v.2.ccr))

/-- The flags of a quotient that fits (R279, R280). -/
def quotientFlags (q : Half) (old : Ccr) : Ccr := { x := old.x, n := q.msb, z := q == 0, v := false, c := false }

/-- The flags of an overflowing division: V set, C clear, N and Z any value (R279, R280, V1, V2, log 8). -/
def divOverflowFlags (nz : Bool × Bool) (old : Ccr) : Ccr := { x := old.x, n := nz.1, z := nz.2, v := true, c := false }

/-- `DIVU` (R279): a zero divisor takes vector 5 with the saved `pc` after the instruction; an overflow leaves the
register. -/
def execDivu (r : Fin 8) (ea : EA) (s : State) : Result :=
  let v := readEA ea .w s
  let m : Half := v.1
  let s := v.2
  let d := s.dreg r
  if m = 0 then .next (takeException (.vector 5) s.cpu.pc s)
  else
    let q := d.toNat / m.toNat
    if 0xFFFF < q then .next (s.setCcr (divOverflowFlags (Config.undefDivu d m s.ccr.toBits) s.ccr))
    else
      let q := BitVec.ofNat 16 q
      .next ((s.setDreg r (BitVec.ofNat 16 (d.toNat % m.toNat) ++ q)).setCcr (quotientFlags q s.ccr))

/-- `DIVS` (R280): truncation toward zero, the remainder with the sign of the dividend. -/
def execDivs (r : Fin 8) (ea : EA) (s : State) : Result :=
  let v := readEA ea .w s
  let m : Half := v.1
  let s := v.2
  let d := s.dreg r
  if m = 0 then .next (takeException (.vector 5) s.cpu.pc s)
  else
    let q := d.toInt.tdiv m.toInt
    if outOfSigned 16 q then .next (s.setCcr (divOverflowFlags (Config.undefDivs d m s.ccr.toBits) s.ccr))
    else
      let rem := d.toInt - q * m.toInt
      let q := BitVec.ofInt 16 q
      .next ((s.setDreg r (BitVec.ofInt 16 rem ++ q)).setCcr (quotientFlags q s.ccr))

/-- `TST` (R282). -/
def execTst (sz : Size) (ea : EA) (s : State) : Result :=
  let v := readEA ea sz s
  .next (v.2.setCcr (stdFlags v.1 v.2.ccr))

/-! ### Decimal -/

/-- `ABCD` (R283). -/
def execAbcd (x : Fin 8) (mode : XMode) (y : Fin 8) (s : State) : Result := .next (extendedForm x .b mode y opAbcd s)

/-- `SBCD` (R284). -/
def execSbcd (x : Fin 8) (mode : XMode) (y : Fin 8) (s : State) : Result := .next (extendedForm x .b mode y opSbcd s)

/-- `NBCD` (R285). -/
def execNbcd (ea : EA) (s : State) : Result := .next (modifyEA ea .b opNbcd s)

end Sys2Proof.Machine
end

