-- ==== Sys2Proof/Machine/CpuLogic.lean ====
section
/-! DEFINITION. The CPU's logic, shift, rotate, bit and byte-test instructions (42_cpu_logic_shift_bit.md). -/
namespace Sys2Proof.Machine

/-! ### Logic (R300) -/

/-- A bitwise result with the std flags (R300). -/
def logicResult {n : Nat} (r : BitVec n) (old : Ccr) : BitVec n × Ccr := (r, stdFlags r old)

/-- And (R301). -/
def opAnd {n : Nat} (src : BitVec n) (d : BitVec n) (old : Ccr) : BitVec n × Ccr := logicResult (d &&& src) old

/-- Or (R303). -/
def opOr {n : Nat} (src : BitVec n) (d : BitVec n) (old : Ccr) : BitVec n × Ccr := logicResult (d ||| src) old

/-- Exclusive or (R305). -/
def opEor {n : Nat} (src : BitVec n) (d : BitVec n) (old : Ccr) : BitVec n × Ccr := logicResult (d ^^^ src) old

/-- One's complement (R307). -/
def opNot {n : Nat} (d : BitVec n) (old : Ccr) : BitVec n × Ccr := logicResult (~~~d) old

/-- `AND ea,Dn` (R301). -/
def execAndEaDn (r : Fin 8) (sz : Size) (ea : EA) (s : State) : Result := .next (eaToDreg r sz ea opAnd s)

/-- `AND Dn,ea` (R301). -/
def execAndDnEa (r : Fin 8) (sz : Size) (ea : EA) (s : State) : Result := .next (dregToEa r sz ea opAnd s)

/-- `ANDI` (R302). -/
def execAndi (sz : Size) (ea : EA) (s : State) : Result := .next (immToEa sz ea opAnd s)

/-- `OR ea,Dn` (R303). -/
def execOrEaDn (r : Fin 8) (sz : Size) (ea : EA) (s : State) : Result := .next (eaToDreg r sz ea opOr s)

/-- `OR Dn,ea` (R303). -/
def execOrDnEa (r : Fin 8) (sz : Size) (ea : EA) (s : State) : Result := .next (dregToEa r sz ea opOr s)

/-- `ORI` (R304). -/
def execOri (sz : Size) (ea : EA) (s : State) : Result := .next (immToEa sz ea opOr s)

/-- `EOR` (R305). -/
def execEor (r : Fin 8) (sz : Size) (ea : EA) (s : State) : Result := .next (dregToEa r sz ea opEor s)

/-- `EORI` (R306). -/
def execEori (sz : Size) (ea : EA) (s : State) : Result := .next (immToEa sz ea opEor s)

/-- `NOT` (R307). -/
def execNotEa (sz : Size) (ea : EA) (s : State) : Result := .next (modifyEA ea sz opNot s)

/-! ### Shifts and rotates (R310) -/

/-- The register form (R310). -/
def shiftDreg (k : ShiftKind) (count : ShiftCount) (sz : Size) (r : Fin 8) (s : State) : State :=
  modifyDreg r sz (shiftBy k (shiftCount count s)) s

/-- The memory form: a word, by one (R310). -/
def shiftEa (k : ShiftKind) (ea : EA) (s : State) : State := modifyEA ea .w (shiftBy k 1) s

/-- `ASL Dn` (R311). -/
def execAslDn (count : ShiftCount) (sz : Size) (r : Fin 8) (s : State) : Result := .next (shiftDreg .asl count sz r s)

/-- `ASL ea` (R311). -/
def execAslEa (ea : EA) (s : State) : Result := .next (shiftEa .asl ea s)

/-- `ASR Dn` (R312). -/
def execAsrDn (count : ShiftCount) (sz : Size) (r : Fin 8) (s : State) : Result := .next (shiftDreg .asr count sz r s)

/-- `ASR ea` (R312). -/
def execAsrEa (ea : EA) (s : State) : Result := .next (shiftEa .asr ea s)

/-- `LSL Dn` (R313). -/
def execLslDn (count : ShiftCount) (sz : Size) (r : Fin 8) (s : State) : Result := .next (shiftDreg .lsl count sz r s)

/-- `LSL ea` (R313). -/
def execLslEa (ea : EA) (s : State) : Result := .next (shiftEa .lsl ea s)

/-- `LSR Dn` (R314). -/
def execLsrDn (count : ShiftCount) (sz : Size) (r : Fin 8) (s : State) : Result := .next (shiftDreg .lsr count sz r s)

/-- `LSR ea` (R314). -/
def execLsrEa (ea : EA) (s : State) : Result := .next (shiftEa .lsr ea s)

/-- `ROL Dn` (R315). -/
def execRolDn (count : ShiftCount) (sz : Size) (r : Fin 8) (s : State) : Result := .next (shiftDreg .rol count sz r s)

/-- `ROL ea` (R315). -/
def execRolEa (ea : EA) (s : State) : Result := .next (shiftEa .rol ea s)

/-- `ROR Dn` (R316). -/
def execRorDn (count : ShiftCount) (sz : Size) (r : Fin 8) (s : State) : Result := .next (shiftDreg .ror count sz r s)

/-- `ROR ea` (R316). -/
def execRorEa (ea : EA) (s : State) : Result := .next (shiftEa .ror ea s)

/-- `ROXL Dn` (R317). -/
def execRoxlDn (count : ShiftCount) (sz : Size) (r : Fin 8) (s : State) : Result := .next (shiftDreg .roxl count sz r s)

/-- `ROXL ea` (R317). -/
def execRoxlEa (ea : EA) (s : State) : Result := .next (shiftEa .roxl ea s)

/-- `ROXR Dn` (R318). -/
def execRoxrDn (count : ShiftCount) (sz : Size) (r : Fin 8) (s : State) : Result := .next (shiftDreg .roxr count sz r s)

/-- `ROXR ea` (R318). -/
def execRoxrEa (ea : EA) (s : State) : Result := .next (shiftEa .roxr ea s)

/-! ### Bit instructions (R320) -/

/-- The operand size of a bit instruction: long for a data register, byte elsewhere (R320). -/
def bitSize (ea : EA) : Size :=
  match ea with
  | .dn _ => .l
  | _ => .b

/-- Only Z changes: set when the tested bit was 0 (R320). -/
def bitFlags {n : Nat} (v : BitVec n) (b : Nat) (old : Ccr) : Ccr := { old with z := !v.getLsbD (b % n) }

/-- The operand with one bit set in it (R320). -/
def bitMask (n b : Nat) : BitVec n := 1#n <<< (b % n)

/-- Invert the bit (R322). -/
def opBchg {n : Nat} (b : Nat) (v : BitVec n) (old : Ccr) : BitVec n × Ccr := (v ^^^ bitMask n b, bitFlags v b old)

/-- Clear the bit (R323). -/
def opBclr {n : Nat} (b : Nat) (v : BitVec n) (old : Ccr) : BitVec n × Ccr := (v &&& ~~~bitMask n b, bitFlags v b old)

/-- Set the bit (R324). -/
def opBset {n : Nat} (b : Nat) (v : BitVec n) (old : Ccr) : BitVec n × Ccr := (v ||| bitMask n b, bitFlags v b old)

/-- The static bit number: the low byte of the first extension word (R320, R174). -/
def fetchBitNumber (s : State) : Nat × State :=
  let w := fetch16 .cpu s
  (w.1.toNat % 256, w.2)

/-- BTST by a bit number (R321). -/
def btstAt (b : Nat) (ea : EA) (s : State) : State :=
  let v := readEA ea (bitSize ea) s
  v.2.setCcr (bitFlags v.1 b v.2.ccr)

/-- `BTST #,ea` (R321). -/
def execBtstImm (ea : EA) (s : State) : Result :=
  let b := fetchBitNumber s
  .next (btstAt b.1 ea b.2)

/-- `BTST Dn,ea` (R321). -/
def execBtstReg (r : Fin 8) (ea : EA) (s : State) : Result := .next (btstAt (s.dreg r).toNat ea s)

/-- `BCHG #,ea` (R322). -/
def execBchgImm (ea : EA) (s : State) : Result :=
  let b := fetchBitNumber s
  .next (modifyEA ea (bitSize ea) (opBchg b.1) b.2)

/-- `BCHG Dn,ea` (R322). -/
def execBchgReg (r : Fin 8) (ea : EA) (s : State) : Result :=
  .next (modifyEA ea (bitSize ea) (opBchg (s.dreg r).toNat) s)

/-- `BCLR #,ea` (R323). -/
def execBclrImm (ea : EA) (s : State) : Result :=
  let b := fetchBitNumber s
  .next (modifyEA ea (bitSize ea) (opBclr b.1) b.2)

/-- `BCLR Dn,ea` (R323). -/
def execBclrReg (r : Fin 8) (ea : EA) (s : State) : Result :=
  .next (modifyEA ea (bitSize ea) (opBclr (s.dreg r).toNat) s)

/-- `BSET #,ea` (R324). -/
def execBsetImm (ea : EA) (s : State) : Result :=
  let b := fetchBitNumber s
  .next (modifyEA ea (bitSize ea) (opBset b.1) b.2)

/-- `BSET Dn,ea` (R324). -/
def execBsetReg (r : Fin 8) (ea : EA) (s : State) : Result :=
  .next (modifyEA ea (bitSize ea) (opBset (s.dreg r).toNat) s)

/-! ### Byte test and set -/

/-- `TAS` (R333). -/
def execTas (ea : EA) (s : State) : Result :=
  .next (modifyEA ea .b (fun v old => (v ||| 0x80, stdFlags v old)) s)

/-- `Scc` (R334): the old byte is not read. -/
def execScc (c : Cond) (ea : EA) (s : State) : Result :=
  .next (writeEA ea .b (if condHolds c s.ccr then 0xFF else 0x00) s)

end Sys2Proof.Machine
end

