-- ==== Sys2Proof/Machine/CpuControl.lean ====
section
/-! DEFINITION. The CPU's branches, jumps, returns, traps and the instructions on its status register
(43_cpu_control_and_system.md). -/
namespace Sys2Proof.Machine

/-! ### Branches, jumps, returns -/

/-- Target and state of a branch with an 8-bit displacement field: 0 selects a 16-bit displacement, fetched whether or
not the branch is taken (R340). -/
def branchTarget (disp : Byte) (s : State) : Long × State :=
  let base := s.cpu.pc
  if disp = 0 then
    let d := fetch16 .cpu s
    (base + d.1.signExtend 32, d.2)
  else (base + disp.signExtend 32, s)

/-- `Bcc` (R340). -/
def execBcc (c : Cond) (disp : Byte) (s : State) : Result :=
  let t := branchTarget disp s
  .next (if condHolds c t.2.ccr then t.2.setPc t.1 else t.2)

/-- `BRA` (R341). -/
def execBra (disp : Byte) (s : State) : Result :=
  let t := branchTarget disp s
  .next (t.2.setPc t.1)

/-- `BSR` (R342). -/
def execBsr (disp : Byte) (s : State) : Result :=
  let t := branchTarget disp s
  .next ((push32 t.2.cpu.pc t.2).setPc t.1)

/-- `DBcc` (R343): only the low word counts. -/
def execDbcc (c : Cond) (r : Fin 8) (s : State) : Result :=
  let base := s.cpu.pc
  let d := fetch16 .cpu s
  let s := d.2
  if condHolds c s.ccr then .next s
  else
    let count : Half := s.dregAt .w r
    let left : Half := count - 1
    let s := s.setDregAt .w r left
    .next (if left = 0xFFFF then s else s.setPc (base + d.1.signExtend 32))

/-- `JMP` (R344). -/
def execJmp (ea : EA) (s : State) : Result :=
  let a := addrEA ea s
  .next (a.2.setPc a.1)

/-- `JSR` (R345). -/
def execJsr (ea : EA) (s : State) : Result :=
  let a := addrEA ea s
  .next ((push32 a.2.cpu.pc a.2).setPc a.1)

/-- `RTS` (R346). -/
def execRts (s : State) : Result :=
  let a := pop32 s
  .next (a.2.setPc a.1)

/-- `RTR` (R347): the upper byte of SR stays. -/
def execRtr (s : State) : Result :=
  let w := pop16 s
  let a := pop32 (w.2.setCcr (Ccr.ofBits (w.1.extractLsb' 0 5)))
  .next (a.2.setPc a.1)

/-- `RTE` (R348). -/
def execRte (s : State) : Result := .next (privileged returnFromException s)

/-- `NOP` (R349). -/
def execNop (s : State) : Result := .next s

/-! ### Traps -/

/-- `TRAP` (R350). -/
def execTrap (v : BitVec 4) (s : State) : Result := .next (takeException (.vector (32 + v.setWidth 8)) s.cpu.pc s)

/-- `TRAPV` (R351). -/
def execTrapv (s : State) : Result := .next (if s.ccr.v then takeException (.vector 7) s.cpu.pc s else s)

/-- `CHK` (R352): Z, V and C are any value in all three cases, N when the register is within bounds (V4, log 8). -/
def execChk (r : Fin 8) (ea : EA) (s : State) : Result :=
  let b := readEA ea .w s
  let s := b.2
  let bound : Half := b.1
  let d : Half := s.dregAt .w r
  let open3 := Config.undefChk d bound s.ccr.toBits
  let flags (n : Bool) : Ccr := { x := s.ccr.x, n := n, z := open3.1, v := open3.2.1, c := open3.2.2 }
  if d.toInt < 0 then .next (takeException (.vector 6) s.cpu.pc (s.setCcr (flags true)))
  else if bound.toInt < d.toInt then .next (takeException (.vector 6) s.cpu.pc (s.setCcr (flags false)))
  else .next (s.setCcr (flags (Config.undefChkN d bound s.ccr.toBits)))

/-- The illegal-instruction exception: what `ILLEGAL` and every word without a row take (R353, R356). -/
def takeIllegal (s : State) : State := takeException (.vector 4) (opaddr s) s

/-- `ILLEGAL` (R353). -/
def execIllegal (s : State) : Result := .next (takeIllegal s)

/-- Line A (R354). -/
def execLineA (_d : BitVec 12) (s : State) : Result := .next (takeException (.vector 10) (opaddr s) s)

/-- Line F (R355). -/
def execLineF (_d : BitVec 12) (s : State) : Result := .next (takeException (.vector 11) (opaddr s) s)

/-! ### Status register and system control -/

/-- `MOVE ea,CCR` (R360): the source is a word. -/
def execMoveEaCcr (ea : EA) (s : State) : Result :=
  let v := readEA ea .w s
  .next (v.2.setCcr (Ccr.ofBits (BitVec.setWidth 5 v.1)))

/-- `MOVE SR,ea` (R361): not privileged; the destination is not read. -/
def execMoveSrEa (ea : EA) (s : State) : Result := .next (writeEA ea .w s.cpu.sr.toHalf s)

/-- `MOVE ea,SR` (R362). -/
def execMoveEaSr (ea : EA) (s : State) : Result :=
  .next (privileged (fun s =>
    let v := readEA ea .w s
    v.2.setSr (StatusReg.ofHalf v.1)) s)

/-- `MOVE An,USP` (R363). -/
def execMoveAnUsp (r : Fin 8) (s : State) : Result := .next (privileged (fun s => s.setUsp (s.areg r)) s)

/-- `MOVE USP,An` (R363). -/
def execMoveUspAn (r : Fin 8) (s : State) : Result := .next (privileged (fun s => s.setAreg r s.cpu.usp) s)

/-- An immediate operation on CCR: bits 4:0 of SR (R364, R366, R368). -/
def immToCcr (op : BitVec 5 → BitVec 5 → BitVec 5) (s : State) : State :=
  let w := fetch16 .cpu s
  w.2.setCcr (Ccr.ofBits (op w.2.ccr.toBits (w.1.setWidth 5)))

/-- An immediate operation on SR (R365, R367, R369). -/
def immToSr (op : Half → Half → Half) (s : State) : State :=
  let w := fetch16 .cpu s
  w.2.setSr (StatusReg.ofHalf (op w.2.cpu.sr.toHalf w.1))

/-- `ANDI to CCR` (R364). -/
def execAndiToCcr (s : State) : Result := .next (immToCcr (· &&& ·) s)

/-- `ANDI to SR` (R365). -/
def execAndiToSr (s : State) : Result := .next (privileged (immToSr (· &&& ·)) s)

/-- `ORI to CCR` (R366). -/
def execOriToCcr (s : State) : Result := .next (immToCcr (· ||| ·) s)

/-- `ORI to SR` (R367). -/
def execOriToSr (s : State) : Result := .next (privileged (immToSr (· ||| ·)) s)

/-- `EORI to CCR` (R368). -/
def execEoriToCcr (s : State) : Result := .next (immToCcr (· ^^^ ·) s)

/-- `EORI to SR` (R369). -/
def execEoriToSr (s : State) : Result := .next (privileged (immToSr (· ^^^ ·)) s)

/-- `RESET` (R370): nothing beyond its privilege check. -/
def execReset (s : State) : Result := .next (privileged id s)

/-- `STOP` (R371). -/
def execStop (s : State) : Result :=
  .next (privileged (fun s =>
    let w := fetch16 .cpu s
    (w.2.setSr (StatusReg.ofHalf w.1)).setRun .stopped) s)

end Sys2Proof.Machine
end

