-- ==== Sys2Proof/Decode.lean ====
section
/-! DEFINITION. The decoders of the CPU (R171 to R181) and of the RISC units (R200 to R206), and after them the
encoder, written from the same encoding tables. -/
namespace Sys2Proof

/-- Why a word is rejected. -/
inductive DecodeError where
  /-- The operation word selects no row of R180 (R181): the CPU takes the illegal-instruction exception (R356). -/
  | noRow
  /-- Fewer than two bytes were given. -/
  | truncated
deriving DecidableEq, Repr

/-- One row of an opcode map: its fixed bits as a mask and a pattern, and the descriptor it gives for a word, `none`
where a constraint of the row fails (R181). -/
structure Row where
  mask : Half
  pattern : Half
  build : Half → Option Instr

/-- The first row whose fixed bits agree with the word and whose constraints hold (R181). -/
def firstRow : List Row → Half → Option Instr
  | [], _ => none
  | row :: rest, w =>
    if w &&& row.mask = row.pattern then
      match row.build w with
      | some i => some i
      | none => firstRow rest w
    else firstRow rest w

/-! ### Fields of a CPU operation word -/

namespace Field

/-- The 3-bit field whose lowest bit is `lo`, as a register number. -/
def reg3 (lo : Nat) (w : Half) : Fin 8 := (w.extractLsb' lo 3).toFin

/-- The register in bits 11:9. -/
def regHigh (w : Half) : Fin 8 := reg3 9 w

/-- The register in bits 2:0. -/
def regLow (w : Half) : Fin 8 := reg3 0 w

/-- An effective address from a mode and a register field (R172); `none` for the three that are never valid. -/
def eaOf (mode reg : Fin 8) : Option EA :=
  match mode.val with
  | 0 => some (.dn reg)
  | 1 => some (.an reg)
  | 2 => some (.ind reg)
  | 3 => some (.postinc reg)
  | 4 => some (.predec reg)
  | 5 => some (.disp reg)
  | 6 => some (.index reg)
  | _ =>
    match reg.val with
    | 0 => some .absW
    | 1 => some .absL
    | 2 => some .pcDisp
    | 3 => some .pcIndex
    | 4 => some .imm
    | _ => none

/-- The effective address of bits 5:0, if it is one of the class (R176). -/
def ea (cls : EAClass) (sz : Size) (w : Half) : Option EA :=
  match eaOf (reg3 3 w) (reg3 0 w) with
  | some e => if cls.admits sz e then some e else none
  | none => none

/-- The destination effective address of MOVE: register in bits 11:9, mode in bits 8:6 (R171). -/
def eaDst (cls : EAClass) (sz : Size) (w : Half) : Option EA :=
  match eaOf (reg3 6 w) (reg3 9 w) with
  | some e => if cls.admits sz e then some e else none
  | none => none

/-- The ordinary size field, bits 7:6; `none` for 11 (R175). -/
def size (w : Half) : Option Size :=
  match (w.extractLsb' 6 2).toNat with
  | 0 => some .b
  | 1 => some .w
  | 2 => some .l
  | _ => none

/-- The size bit 6 of MOVEM and MOVEP (R175). -/
def longSize (w : Half) : LongSize := if w.getLsbD 6 then .l else .w

/-- A condition from its code (R182). -/
def condOf (k : BitVec 4) : Cond :=
  match k.toNat with
  | 0 => .t
  | 1 => .f
  | 2 => .hi
  | 3 => .ls
  | 4 => .cc
  | 5 => .cs
  | 6 => .ne
  | 7 => .eq
  | 8 => .vc
  | 9 => .vs
  | 10 => .pl
  | 11 => .mi
  | 12 => .ge
  | 13 => .lt
  | 14 => .gt
  | _ => .le

/-- The condition in bits 11:8. -/
def cond (w : Half) : Cond := condOf (w.extractLsb' 8 4)

/-- The form bit 3 of ADDX, SUBX, ABCD and SBCD (R265). -/
def xmode (w : Half) : XMode := if w.getLsbD 3 then .predec else .regs

/-- The count of a register shift: bit 5 and bits 11:9 (R178, R310). -/
def count (w : Half) : ShiftCount := if w.getLsbD 5 then .reg (regHigh w) else .imm (w.extractLsb' 9 3)

/-- The 8-bit data or displacement, bits 7:0. -/
def low8 (w : Half) : Byte := w.extractLsb' 0 8

/-- The low twelve bits. -/
def low12 (w : Half) : BitVec 12 := w.extractLsb' 0 12

/-- The quick data, bits 11:9 (R178). -/
def quick (w : Half) : BitVec 3 := w.extractLsb' 9 3

/-- The first operand field of a RISC word, bits 9:5 (R200). -/
def f1 (w : Half) : BitVec 5 := w.extractLsb' 5 5

/-- The second operand field of a RISC word, bits 4:0 (R200). -/
def f2 (w : Half) : BitVec 5 := w.extractLsb' 0 5

end Field

/-! ### Shapes of a row's descriptor -/

namespace Shape

/-- No field. -/
def fixed (i : Instr) (_ : Half) : Option Instr := some i

/-- An effective address of a fixed size. -/
def ea (cls : EAClass) (sz : Size) (k : EA → Instr) (w : Half) : Option Instr := (Field.ea cls sz w).map k

/-- A size and an effective address. -/
def sizeEa (cls : EAClass) (k : Size → EA → Instr) (w : Half) : Option Instr :=
  match Field.size w with
  | some sz => (Field.ea cls sz w).map (k sz)
  | none => none

/-- The register of bits 11:9 and an effective address of a fixed size. -/
def regEa (cls : EAClass) (sz : Size) (k : Fin 8 → EA → Instr) (w : Half) : Option Instr :=
  (Field.ea cls sz w).map (k (Field.regHigh w))

/-- The register of bits 11:9, a size and an effective address. -/
def regSizeEa (cls : EAClass) (k : Fin 8 → Size → EA → Instr) (w : Half) : Option Instr :=
  match Field.size w with
  | some sz => (Field.ea cls sz w).map (k (Field.regHigh w) sz)
  | none => none

/-- The quick data, a size and an effective address. -/
def quickSizeEa (cls : EAClass) (k : BitVec 3 → Size → EA → Instr) (w : Half) : Option Instr :=
  match Field.size w with
  | some sz => (Field.ea cls sz w).map (k (Field.quick w) sz)
  | none => none

/-- The two effective addresses of MOVE (R171). -/
def move (sz : Size) (k : EA → EA → Instr) (w : Half) : Option Instr :=
  match Field.ea .all sz w, Field.eaDst .dataAlt sz w with
  | some src, some dst => some (k dst src)
  | _, _ => none

/-- MOVEM: the size bit 6 and an effective address. -/
def movem (cls : EAClass) (k : LongSize → EA → Instr) (w : Half) : Option Instr :=
  (Field.ea cls (Field.longSize w).toSize w).map (k (Field.longSize w))

/-- The register of bits 2:0. -/
def reg (k : Fin 8 → Instr) (w : Half) : Option Instr := some (k (Field.regLow w))

/-- The registers of bits 11:9 and 2:0. -/
def regReg (k : Fin 8 → Fin 8 → Instr) (w : Half) : Option Instr := some (k (Field.regHigh w) (Field.regLow w))

/-- ABCD and SBCD. -/
def decimal (k : Fin 8 → XMode → Fin 8 → Instr) (w : Half) : Option Instr :=
  some (k (Field.regHigh w) (Field.xmode w) (Field.regLow w))

/-- ADDX and SUBX. -/
def extended (k : Fin 8 → Size → XMode → Fin 8 → Instr) (w : Half) : Option Instr :=
  (Field.size w).map fun sz => k (Field.regHigh w) sz (Field.xmode w) (Field.regLow w)

/-- CMPM. -/
def regSizeReg (k : Fin 8 → Size → Fin 8 → Instr) (w : Half) : Option Instr :=
  (Field.size w).map fun sz => k (Field.regHigh w) sz (Field.regLow w)

/-- A shift of a register. -/
def shift (k : ShiftCount → Size → Fin 8 → Instr) (w : Half) : Option Instr :=
  (Field.size w).map fun sz => k (Field.count w) sz (Field.regLow w)

/-- A RISC row with two registers. -/
def mn (k : Fin 32 → Fin 32 → Instr) (w : Half) : Option Instr := some (k (Field.f1 w).toFin (Field.f2 w).toFin)

/-- A RISC row with one register, `f1` ignored or fixed. -/
def n (k : Fin 32 → Instr) (w : Half) : Option Instr := some (k (Field.f2 w).toFin)

/-- A RISC row with an immediate and a register. -/
def qn (k : BitVec 5 → Fin 32 → Instr) (w : Half) : Option Instr := some (k (Field.f1 w) (Field.f2 w).toFin)

end Shape

/-! ### The opcode maps -/

/-- Rows of `cpuRows`, part 1. -/
def cpuRows1 : List Row :=
  [ ⟨0xFFFF, 0x003C, Shape.fixed .oriToCcr⟩,
    ⟨0xFFFF, 0x007C, Shape.fixed .oriToSr⟩,
    ⟨0xFFFF, 0x023C, Shape.fixed .andiToCcr⟩,
    ⟨0xFFFF, 0x027C, Shape.fixed .andiToSr⟩,
    ⟨0xFFFF, 0x0A3C, Shape.fixed .eoriToCcr⟩,
    ⟨0xFFFF, 0x0A7C, Shape.fixed .eoriToSr⟩,
    ⟨0xFF00, 0x0000, Shape.sizeEa .dataAlt .ori⟩,
    ⟨0xFF00, 0x0200, Shape.sizeEa .dataAlt .andi⟩,
    ⟨0xFF00, 0x0400, Shape.sizeEa .dataAlt .subi⟩,
    ⟨0xFF00, 0x0600, Shape.sizeEa .dataAlt .addi⟩,
    ⟨0xFF00, 0x0A00, Shape.sizeEa .dataAlt .eori⟩,
    ⟨0xFF00, 0x0C00, Shape.sizeEa .dataAlt .cmpi⟩ ]

/-- Rows of `cpuRows`, part 2. -/
def cpuRows2 : List Row :=
  [ ⟨0xFFC0, 0x0800, Shape.ea .dataNoImm .b .btstImm⟩,
    ⟨0xFFC0, 0x0840, Shape.ea .dataAlt .b .bchgImm⟩,
    ⟨0xFFC0, 0x0880, Shape.ea .dataAlt .b .bclrImm⟩,
    ⟨0xFFC0, 0x08C0, Shape.ea .dataAlt .b .bsetImm⟩,
    ⟨0xF138, 0x0108, fun w => some (.movep (Field.regHigh w) (if w.getLsbD 7 then .regToMem else .memToReg) (Field.longSize w) (Field.regLow w))⟩,
    ⟨0xF1C0, 0x0100, Shape.regEa .data .b .btstReg⟩,
    ⟨0xF1C0, 0x0140, Shape.regEa .dataAlt .b .bchgReg⟩,
    ⟨0xF1C0, 0x0180, Shape.regEa .dataAlt .b .bclrReg⟩,
    ⟨0xF1C0, 0x01C0, Shape.regEa .dataAlt .b .bsetReg⟩,
    ⟨0xF1C0, 0x2040, Shape.regEa .all .l .moveaL⟩,
    ⟨0xF1C0, 0x3040, Shape.regEa .all .w .moveaW⟩,
    ⟨0xF000, 0x1000, Shape.move .b .moveB⟩ ]

/-- Rows of `cpuRows`, part 3. -/
def cpuRows3 : List Row :=
  [ ⟨0xF000, 0x2000, Shape.move .l .moveL⟩,
    ⟨0xF000, 0x3000, Shape.move .w .moveW⟩,
    ⟨0xFFFF, 0x4AFC, Shape.fixed .illegal⟩,
    ⟨0xFFFF, 0x4E70, Shape.fixed .reset⟩,
    ⟨0xFFFF, 0x4E71, Shape.fixed .nop⟩,
    ⟨0xFFFF, 0x4E72, Shape.fixed .stop⟩,
    ⟨0xFFFF, 0x4E73, Shape.fixed .rte⟩,
    ⟨0xFFFF, 0x4E75, Shape.fixed .rts⟩,
    ⟨0xFFFF, 0x4E76, Shape.fixed .trapv⟩,
    ⟨0xFFFF, 0x4E77, Shape.fixed .rtr⟩,
    ⟨0xFFF0, 0x4E40, fun w => some (.trap (w.extractLsb' 0 4))⟩,
    ⟨0xFFF8, 0x4E50, Shape.reg .link⟩ ]

/-- Rows of `cpuRows`, part 4. -/
def cpuRows4 : List Row :=
  [ ⟨0xFFF8, 0x4E58, Shape.reg .unlk⟩,
    ⟨0xFFF8, 0x4E60, Shape.reg .moveAnUsp⟩,
    ⟨0xFFF8, 0x4E68, Shape.reg .moveUspAn⟩,
    ⟨0xFFC0, 0x4E80, Shape.ea .control .l .jsr⟩,
    ⟨0xFFC0, 0x4EC0, Shape.ea .control .l .jmp⟩,
    ⟨0xFFF8, 0x4840, Shape.reg .swap⟩,
    ⟨0xFFC0, 0x4840, Shape.ea .control .l .pea⟩,
    ⟨0xFFF8, 0x4880, Shape.reg .extW⟩,
    ⟨0xFFF8, 0x48C0, Shape.reg .extL⟩,
    ⟨0xFF80, 0x4880, Shape.movem .controlAltPredec .movemRegsEa⟩,
    ⟨0xFF80, 0x4C80, Shape.movem .controlPostinc .movemEaRegs⟩,
    ⟨0xFFC0, 0x4800, Shape.ea .dataAlt .b .nbcd⟩ ]

/-- Rows of `cpuRows`, part 5. -/
def cpuRows5 : List Row :=
  [ ⟨0xFFC0, 0x4AC0, Shape.ea .dataAlt .b .tas⟩,
    ⟨0xFF00, 0x4A00, Shape.sizeEa .dataAlt .tst⟩,
    ⟨0xFFC0, 0x40C0, Shape.ea .dataAlt .w .moveSrEa⟩,
    ⟨0xFFC0, 0x44C0, Shape.ea .data .w .moveEaCcr⟩,
    ⟨0xFFC0, 0x46C0, Shape.ea .data .w .moveEaSr⟩,
    ⟨0xFF00, 0x4000, Shape.sizeEa .dataAlt .negx⟩,
    ⟨0xFF00, 0x4200, Shape.sizeEa .dataAlt .clr⟩,
    ⟨0xFF00, 0x4400, Shape.sizeEa .dataAlt .neg⟩,
    ⟨0xFF00, 0x4600, Shape.sizeEa .dataAlt .notEa⟩,
    ⟨0xF1C0, 0x4180, Shape.regEa .data .w .chk⟩,
    ⟨0xF1C0, 0x41C0, Shape.regEa .control .l .lea⟩,
    ⟨0xF0F8, 0x50C8, fun w => some (.dbcc (Field.cond w) (Field.regLow w))⟩ ]

/-- Rows of `cpuRows`, part 6. -/
def cpuRows6 : List Row :=
  [ ⟨0xF0C0, 0x50C0, fun w => (Field.ea .dataAlt .b w).map (.scc (Field.cond w))⟩,
    ⟨0xF100, 0x5000, Shape.quickSizeEa .alt .addq⟩,
    ⟨0xF100, 0x5100, Shape.quickSizeEa .alt .subq⟩,
    ⟨0xFF00, 0x6000, fun w => some (.bra (Field.low8 w))⟩,
    ⟨0xFF00, 0x6100, fun w => some (.bsr (Field.low8 w))⟩,
    ⟨0xF000, 0x6000, fun w => if Field.cond w = .t ∨ Field.cond w = .f then none else some (.bcc (Field.cond w) (Field.low8 w))⟩,
    ⟨0xF100, 0x7000, fun w => some (.moveq (Field.regHigh w) (Field.low8 w))⟩,
    ⟨0xF1C0, 0x80C0, Shape.regEa .data .w .divu⟩,
    ⟨0xF1C0, 0x81C0, Shape.regEa .data .w .divs⟩,
    ⟨0xF1F0, 0x8100, Shape.decimal .sbcd⟩,
    ⟨0xF100, 0x8000, Shape.regSizeEa .data .orEaDn⟩,
    ⟨0xF100, 0x8100, Shape.regSizeEa .memAlt .orDnEa⟩ ]

/-- Rows of `cpuRows`, part 7. -/
def cpuRows7 : List Row :=
  [ ⟨0xF1C0, 0x90C0, Shape.regEa .all .w .subaW⟩,
    ⟨0xF1C0, 0x91C0, Shape.regEa .all .l .subaL⟩,
    ⟨0xF130, 0x9100, Shape.extended .subx⟩,
    ⟨0xF100, 0x9000, Shape.regSizeEa .all .subEaDn⟩,
    ⟨0xF100, 0x9100, Shape.regSizeEa .memAlt .subDnEa⟩,
    ⟨0xF000, 0xA000, fun w => some (.lineA (Field.low12 w))⟩,
    ⟨0xF1C0, 0xB0C0, Shape.regEa .all .w .cmpaW⟩,
    ⟨0xF1C0, 0xB1C0, Shape.regEa .all .l .cmpaL⟩,
    ⟨0xF138, 0xB108, Shape.regSizeReg .cmpm⟩,
    ⟨0xF100, 0xB000, Shape.regSizeEa .all .cmp⟩,
    ⟨0xF100, 0xB100, Shape.regSizeEa .dataAlt .eor⟩,
    ⟨0xF1C0, 0xC0C0, Shape.regEa .data .w .mulu⟩ ]

/-- Rows of `cpuRows`, part 8. -/
def cpuRows8 : List Row :=
  [ ⟨0xF1C0, 0xC1C0, Shape.regEa .data .w .muls⟩,
    ⟨0xF1F0, 0xC100, Shape.decimal .abcd⟩,
    ⟨0xF1F8, 0xC140, Shape.regReg .exgDD⟩,
    ⟨0xF1F8, 0xC148, Shape.regReg .exgAA⟩,
    ⟨0xF1F8, 0xC188, Shape.regReg .exgDA⟩,
    ⟨0xF100, 0xC000, Shape.regSizeEa .data .andEaDn⟩,
    ⟨0xF100, 0xC100, Shape.regSizeEa .memAlt .andDnEa⟩,
    ⟨0xF1C0, 0xD0C0, Shape.regEa .all .w .addaW⟩,
    ⟨0xF1C0, 0xD1C0, Shape.regEa .all .l .addaL⟩,
    ⟨0xF130, 0xD100, Shape.extended .addx⟩,
    ⟨0xF100, 0xD000, Shape.regSizeEa .all .addEaDn⟩,
    ⟨0xF100, 0xD100, Shape.regSizeEa .memAlt .addDnEa⟩ ]

/-- Rows of `cpuRows`, part 9. -/
def cpuRows9 : List Row :=
  [ ⟨0xFFC0, 0xE0C0, Shape.ea .memAlt .w .asrEa⟩,
    ⟨0xFFC0, 0xE1C0, Shape.ea .memAlt .w .aslEa⟩,
    ⟨0xFFC0, 0xE2C0, Shape.ea .memAlt .w .lsrEa⟩,
    ⟨0xFFC0, 0xE3C0, Shape.ea .memAlt .w .lslEa⟩,
    ⟨0xFFC0, 0xE4C0, Shape.ea .memAlt .w .roxrEa⟩,
    ⟨0xFFC0, 0xE5C0, Shape.ea .memAlt .w .roxlEa⟩,
    ⟨0xFFC0, 0xE6C0, Shape.ea .memAlt .w .rorEa⟩,
    ⟨0xFFC0, 0xE7C0, Shape.ea .memAlt .w .rolEa⟩,
    ⟨0xF118, 0xE000, Shape.shift .asrDn⟩,
    ⟨0xF118, 0xE100, Shape.shift .aslDn⟩,
    ⟨0xF118, 0xE008, Shape.shift .lsrDn⟩,
    ⟨0xF118, 0xE108, Shape.shift .lslDn⟩ ]

/-- Rows of `cpuRows`, part 10. -/
def cpuRows10 : List Row :=
  [ ⟨0xF118, 0xE010, Shape.shift .roxrDn⟩,
    ⟨0xF118, 0xE110, Shape.shift .roxlDn⟩,
    ⟨0xF118, 0xE018, Shape.shift .rorDn⟩,
    ⟨0xF118, 0xE118, Shape.shift .rolDn⟩,
    ⟨0xF000, 0xF000, fun w => some (.lineF (Field.low12 w))⟩ ]

/-- The CPU opcode map of R180, in the order in which the decoder tries its rows. -/
def cpuRows : List Row :=
  cpuRows1 ++ cpuRows2 ++ cpuRows3 ++ cpuRows4 ++ cpuRows5 ++ cpuRows6 ++ cpuRows7 ++ cpuRows8 ++ cpuRows9 ++ cpuRows10

/-- Rows of `bothRows`, part 1. -/
def bothRows1 (u : Coproc) : List Row :=
  [ ⟨0xFC00, 0x0000, Shape.mn (.rAdd u)⟩,
    ⟨0xFC00, 0x0400, Shape.mn (.rAddc u)⟩,
    ⟨0xFC00, 0x0800, Shape.qn (.rAddq u)⟩,
    ⟨0xFC00, 0x0C00, Shape.qn (.rAddqt u)⟩,
    ⟨0xFC00, 0x1000, Shape.mn (.rSub u)⟩,
    ⟨0xFC00, 0x1400, Shape.mn (.rSubc u)⟩,
    ⟨0xFC00, 0x1800, Shape.qn (.rSubq u)⟩,
    ⟨0xFC00, 0x1C00, Shape.qn (.rSubqt u)⟩,
    ⟨0xFC00, 0x2000, Shape.n (.rNeg u)⟩,
    ⟨0xFC00, 0x2400, Shape.mn (.rAnd u)⟩,
    ⟨0xFC00, 0x2800, Shape.mn (.rOr u)⟩,
    ⟨0xFC00, 0x2C00, Shape.mn (.rXor u)⟩ ]

/-- Rows of `bothRows`, part 2. -/
def bothRows2 (u : Coproc) : List Row :=
  [ ⟨0xFC00, 0x3000, Shape.n (.rNot u)⟩,
    ⟨0xFC00, 0x3400, Shape.qn (.rBtst u)⟩,
    ⟨0xFC00, 0x3800, Shape.qn (.rBset u)⟩,
    ⟨0xFC00, 0x3C00, Shape.qn (.rBclr u)⟩,
    ⟨0xFC00, 0x4000, Shape.mn (.rMult u)⟩,
    ⟨0xFC00, 0x4400, Shape.mn (.rImult u)⟩,
    ⟨0xFC00, 0x4800, Shape.mn (.rImultn u)⟩,
    ⟨0xFC00, 0x4C00, Shape.n (.rResmac u)⟩,
    ⟨0xFC00, 0x5000, Shape.mn (.rImacn u)⟩,
    ⟨0xFC00, 0x5400, Shape.mn (.rDiv u)⟩,
    ⟨0xFC00, 0x5800, Shape.n (.rAbs u)⟩,
    ⟨0xFC00, 0x5C00, Shape.mn (.rSh u)⟩ ]

/-- Rows of `bothRows`, part 3. -/
def bothRows3 (u : Coproc) : List Row :=
  [ ⟨0xFC00, 0x6000, Shape.qn (.rShlq u)⟩,
    ⟨0xFC00, 0x6400, Shape.qn (.rShrq u)⟩,
    ⟨0xFC00, 0x6800, Shape.mn (.rSha u)⟩,
    ⟨0xFC00, 0x6C00, Shape.qn (.rSharq u)⟩,
    ⟨0xFC00, 0x7000, Shape.mn (.rRor u)⟩,
    ⟨0xFC00, 0x7400, Shape.qn (.rRorq u)⟩,
    ⟨0xFC00, 0x7800, Shape.mn (.rCmp u)⟩,
    ⟨0xFC00, 0x7C00, Shape.qn (.rCmpq u)⟩,
    ⟨0xFC00, 0x8800, Shape.mn (.rMove u)⟩,
    ⟨0xFC00, 0x8C00, Shape.qn (.rMoveq u)⟩,
    ⟨0xFC00, 0x9000, Shape.mn (.rMoveta u)⟩,
    ⟨0xFC00, 0x9400, Shape.mn (.rMovefa u)⟩ ]

/-- Rows of `bothRows`, part 4. -/
def bothRows4 (u : Coproc) : List Row :=
  [ ⟨0xFC00, 0x9800, Shape.n (.rMovei u)⟩,
    ⟨0xFC00, 0x9C00, Shape.mn (.rLoadb u)⟩,
    ⟨0xFC00, 0xA000, Shape.mn (.rLoadw u)⟩,
    ⟨0xFC00, 0xA400, Shape.mn (.rLoad u)⟩,
    ⟨0xFC00, 0xAC00, Shape.qn (.rLoadR14q u)⟩,
    ⟨0xFC00, 0xB000, Shape.qn (.rLoadR15q u)⟩,
    ⟨0xFC00, 0xB400, Shape.mn (.rStoreb u)⟩,
    ⟨0xFC00, 0xB800, Shape.mn (.rStorew u)⟩,
    ⟨0xFC00, 0xBC00, Shape.mn (.rStore u)⟩,
    ⟨0xFC00, 0xC400, Shape.qn (.rStoreR14q u)⟩,
    ⟨0xFC00, 0xC800, Shape.qn (.rStoreR15q u)⟩,
    ⟨0xFC00, 0xCC00, Shape.n (.rMovePc u)⟩ ]

/-- Rows of `bothRows`, part 5. -/
def bothRows5 (u : Coproc) : List Row :=
  [ ⟨0xFC00, 0xD000, fun w => some (.rJump u (Field.f1 w).toFin (Field.f2 w))⟩,
    ⟨0xFC00, 0xD400, fun w => some (.rJr u (Field.f1 w) (Field.f2 w))⟩,
    ⟨0xFC00, 0xD800, Shape.mn (.rMmult u)⟩,
    ⟨0xFC00, 0xDC00, Shape.mn (.rMtoi u)⟩,
    ⟨0xFC00, 0xE000, Shape.mn (.rNormi u)⟩,
    ⟨0xFC00, 0xE400, Shape.fixed (.rNop u)⟩,
    ⟨0xFC00, 0xE800, Shape.mn (.rLoadR14m u)⟩,
    ⟨0xFC00, 0xEC00, Shape.mn (.rLoadR15m u)⟩,
    ⟨0xFC00, 0xF000, Shape.mn (.rStoreR14m u)⟩,
    ⟨0xFC00, 0xF400, Shape.mn (.rStoreR15m u)⟩ ]

/-- The rows of R203 that hold for both units. -/
def bothRows (u : Coproc) : List Row :=
  bothRows1 u ++ bothRows2 u ++ bothRows3 u ++ bothRows4 u ++ bothRows5 u

/-- Rows of `gpuRows`, part 1. -/
def gpuRows1 : List Row :=
  [ ⟨0xFC00, 0x8000, Shape.n .gSat8⟩,
    ⟨0xFC00, 0x8400, Shape.n .gSat16⟩,
    ⟨0xFC00, 0xA800, Shape.mn .gLoadp⟩,
    ⟨0xFC00, 0xC000, Shape.mn .gStorep⟩,
    ⟨0xFC00, 0xF800, Shape.n .gSat24⟩,
    ⟨0xFFE0, 0xFC00, Shape.n .gPack⟩,
    ⟨0xFC00, 0xFC00, Shape.n .gUnpack⟩ ]

/-- The rows of R203 that hold for the GPU alone; PACK is tried before UNPACK (R503, R504). -/
def gpuRows : List Row :=
  gpuRows1

/-- Rows of `dspRows`, part 1. -/
def dspRows1 : List Row :=
  [ ⟨0xFC00, 0x8000, Shape.qn .dSubqmod⟩,
    ⟨0xFC00, 0x8400, Shape.n .dSat16s⟩,
    ⟨0xFC00, 0xA800, Shape.n .dSat32s⟩,
    ⟨0xFC00, 0xC000, Shape.n .dMirror⟩,
    ⟨0xFC00, 0xF800, Shape.fixed .dReserved62⟩,
    ⟨0xFC00, 0xFC00, Shape.qn .dAddqmod⟩ ]

/-- The rows of R203 that hold for the DSP alone. -/
def dspRows : List Row :=
  dspRows1

/-- The opcode map of a unit (R203): the two units differ at opcodes 32, 33, 42, 48, 62 and 63 only. -/
def riscRows : Coproc → List Row
  | .gpu => bothRows .gpu ++ gpuRows
  | .dsp => bothRows .dsp ++ dspRows

/-- The decoder of a role (R181, R206): the descriptor of an operation word. -/
def decode : Role → Half → Except DecodeError Instr
  | .cpu, w =>
    match firstRow cpuRows w with
    | some i => .ok i
    | none => .error .noRow
  | .risc u, w =>
    match firstRow (riscRows u) w with
    | some i => .ok i
    | none => .error .noRow

/-- The decoder on bytes as memory holds them (R106): the first two bytes are the operation word; the rest is
returned. Total on any bytes. -/
def decodeBytes (p : Role) : List Byte → Except DecodeError (Instr × List Byte)
  | hi :: lo :: rest =>
    match decode p (hi ++ lo) with
    | .ok i => .ok (i, rest)
    | .error e => .error e
  | _ => .error .truncated

/-- The bytes in which the hardware stores an instruction given as one number: `count` 16-bit words, the first in bits
15:0 of the number, each word high byte first (R106). -/
def wordBytes : Nat → Nat → List Byte
  | 0, _ => []
  | count + 1, w => BitVec.ofNat 8 (w / 256) :: BitVec.ofNat 8 w :: wordBytes count (w / 65536)

/-- The bytes of a table word: its lowest `nbits` bits, every bit above them 0, out to the longest instruction, five
words (R170). -/
def tableBytes (nbits w : Nat) : List Byte := wordBytes 5 (w % 2 ^ nbits)

/-- The CPU instruction that the decoder reads from a table word. The words of the two RISC tables are words of the
CPU's table too, and the numbers do not say the processor: the CPU's decoder is asked (log 2). -/
def decodeTableWord (nbits w : Nat) : Option Instr :=
  match decodeBytes .cpu (tableBytes nbits w) with
  | .ok (i, _) => some i
  | .error _ => none

/-! ### The encoder -/

namespace Enc

/-- A field's bits at the position whose lowest bit is `lo`. -/
def at_ {k : Nat} (lo : Nat) (v : BitVec k) : Half := v.setWidth 16 <<< lo

/-- A CPU register number at a position. -/
def reg (lo : Nat) (r : Fin 8) : Half := at_ lo (BitVec.ofFin (w := 3) r)

/-- The mode field of an effective address (R172). -/
def eaMode : EA → Fin 8
  | .dn _ => 0
  | .an _ => 1
  | .ind _ => 2
  | .postinc _ => 3
  | .predec _ => 4
  | .disp _ => 5
  | .index _ => 6
  | .absW => 7
  | .absL => 7
  | .pcDisp => 7
  | .pcIndex => 7
  | .imm => 7

/-- The register field of an effective address (R172). -/
def eaReg : EA → Fin 8
  | .dn r => r
  | .an r => r
  | .ind r => r
  | .postinc r => r
  | .predec r => r
  | .disp r => r
  | .index r => r
  | .absW => 0
  | .absL => 1
  | .pcDisp => 2
  | .pcIndex => 3
  | .imm => 4

/-- An effective address in bits 5:0. -/
def ea (e : EA) : Half := reg 3 (eaMode e) ||| reg 0 (eaReg e)

/-- The destination effective address of MOVE, register in 11:9 and mode in 8:6. -/
def eaDst (e : EA) : Half := reg 6 (eaMode e) ||| reg 9 (eaReg e)

/-- The ordinary size field, bits 7:6 (R175). -/
def size : Size → Half
  | .b => 0x0000
  | .w => 0x0040
  | .l => 0x0080

/-- The size bit 6 of MOVEM and MOVEP (R175). -/
def longSize : LongSize → Half
  | .w => 0x0000
  | .l => 0x0040

/-- A condition's code (R182). -/
def condCode : Cond → BitVec 4
  | .t => 0
  | .f => 1
  | .hi => 2
  | .ls => 3
  | .cc => 4
  | .cs => 5
  | .ne => 6
  | .eq => 7
  | .vc => 8
  | .vs => 9
  | .pl => 10
  | .mi => 11
  | .ge => 12
  | .lt => 13
  | .gt => 14
  | .le => 15

/-- A condition in bits 11:8. -/
def cond (c : Cond) : Half := at_ 8 (condCode c)

/-- The form bit 3 of ADDX, SUBX, ABCD and SBCD. -/
def xmode : XMode → Half
  | .regs => 0x0000
  | .predec => 0x0008

/-- The direction bit 7 of MOVEP. -/
def movepDir : MovepDir → Half
  | .memToReg => 0x0000
  | .regToMem => 0x0080

/-- The count of a register shift: bit 5 and bits 11:9. -/
def count : ShiftCount → Half
  | .imm k => at_ 9 k
  | .reg r => 0x0020 ||| reg 9 r

/-- A RISC register number at a position. -/
def rreg (lo : Nat) (r : Fin 32) : Half := at_ lo (BitVec.ofFin (w := 5) r)

end Enc

/-- The operation word of a well-formed instruction, from the patterns of R180 and R203. Ignored fields are 0, and
UNPACK has `f1 = 1` (R504). The extension words are no part of the descriptor. -/
def encode : Instr → Half
  | .oriToCcr => 0x003C
  | .oriToSr => 0x007C
  | .andiToCcr => 0x023C
  | .andiToSr => 0x027C
  | .eoriToCcr => 0x0A3C
  | .eoriToSr => 0x0A7C
  | .ori sz ea => 0x0000 ||| Enc.size sz ||| Enc.ea ea
  | .andi sz ea => 0x0200 ||| Enc.size sz ||| Enc.ea ea
  | .subi sz ea => 0x0400 ||| Enc.size sz ||| Enc.ea ea
  | .addi sz ea => 0x0600 ||| Enc.size sz ||| Enc.ea ea
  | .eori sz ea => 0x0A00 ||| Enc.size sz ||| Enc.ea ea
  | .cmpi sz ea => 0x0C00 ||| Enc.size sz ||| Enc.ea ea
  | .btstImm ea => 0x0800 ||| Enc.ea ea
  | .bchgImm ea => 0x0840 ||| Enc.ea ea
  | .bclrImm ea => 0x0880 ||| Enc.ea ea
  | .bsetImm ea => 0x08C0 ||| Enc.ea ea
  | .movep r dir sz a => 0x0108 ||| Enc.reg 9 r ||| Enc.movepDir dir ||| Enc.longSize sz ||| Enc.reg 0 a
  | .btstReg r ea => 0x0100 ||| Enc.reg 9 r ||| Enc.ea ea
  | .bchgReg r ea => 0x0140 ||| Enc.reg 9 r ||| Enc.ea ea
  | .bclrReg r ea => 0x0180 ||| Enc.reg 9 r ||| Enc.ea ea
  | .bsetReg r ea => 0x01C0 ||| Enc.reg 9 r ||| Enc.ea ea
  | .moveaL r ea => 0x2040 ||| Enc.reg 9 r ||| Enc.ea ea
  | .moveaW r ea => 0x3040 ||| Enc.reg 9 r ||| Enc.ea ea
  | .moveB dst src => 0x1000 ||| Enc.eaDst dst ||| Enc.ea src
  | .moveL dst src => 0x2000 ||| Enc.eaDst dst ||| Enc.ea src
  | .moveW dst src => 0x3000 ||| Enc.eaDst dst ||| Enc.ea src
  | .illegal => 0x4AFC
  | .reset => 0x4E70
  | .nop => 0x4E71
  | .stop => 0x4E72
  | .rte => 0x4E73
  | .rts => 0x4E75
  | .trapv => 0x4E76
  | .rtr => 0x4E77
  | .trap v => 0x4E40 ||| Enc.at_ 0 v
  | .link r => 0x4E50 ||| Enc.reg 0 r
  | .unlk r => 0x4E58 ||| Enc.reg 0 r
  | .moveAnUsp r => 0x4E60 ||| Enc.reg 0 r
  | .moveUspAn r => 0x4E68 ||| Enc.reg 0 r
  | .jsr ea => 0x4E80 ||| Enc.ea ea
  | .jmp ea => 0x4EC0 ||| Enc.ea ea
  | .swap r => 0x4840 ||| Enc.reg 0 r
  | .pea ea => 0x4840 ||| Enc.ea ea
  | .extW r => 0x4880 ||| Enc.reg 0 r
  | .extL r => 0x48C0 ||| Enc.reg 0 r
  | .movemRegsEa sz ea => 0x4880 ||| Enc.longSize sz ||| Enc.ea ea
  | .movemEaRegs sz ea => 0x4C80 ||| Enc.longSize sz ||| Enc.ea ea
  | .nbcd ea => 0x4800 ||| Enc.ea ea
  | .tas ea => 0x4AC0 ||| Enc.ea ea
  | .tst sz ea => 0x4A00 ||| Enc.size sz ||| Enc.ea ea
  | .moveSrEa ea => 0x40C0 ||| Enc.ea ea
  | .moveEaCcr ea => 0x44C0 ||| Enc.ea ea
  | .moveEaSr ea => 0x46C0 ||| Enc.ea ea
  | .negx sz ea => 0x4000 ||| Enc.size sz ||| Enc.ea ea
  | .clr sz ea => 0x4200 ||| Enc.size sz ||| Enc.ea ea
  | .neg sz ea => 0x4400 ||| Enc.size sz ||| Enc.ea ea
  | .notEa sz ea => 0x4600 ||| Enc.size sz ||| Enc.ea ea
  | .chk r ea => 0x4180 ||| Enc.reg 9 r ||| Enc.ea ea
  | .lea r ea => 0x41C0 ||| Enc.reg 9 r ||| Enc.ea ea
  | .dbcc c r => 0x50C8 ||| Enc.cond c ||| Enc.reg 0 r
  | .scc c ea => 0x50C0 ||| Enc.cond c ||| Enc.ea ea
  | .addq q sz ea => 0x5000 ||| Enc.at_ 9 q ||| Enc.size sz ||| Enc.ea ea
  | .subq q sz ea => 0x5100 ||| Enc.at_ 9 q ||| Enc.size sz ||| Enc.ea ea
  | .bra disp => 0x6000 ||| Enc.at_ 0 disp
  | .bsr disp => 0x6100 ||| Enc.at_ 0 disp
  | .bcc c disp => 0x6000 ||| Enc.cond c ||| Enc.at_ 0 disp
  | .moveq r data => 0x7000 ||| Enc.reg 9 r ||| Enc.at_ 0 data
  | .divu r ea => 0x80C0 ||| Enc.reg 9 r ||| Enc.ea ea
  | .divs r ea => 0x81C0 ||| Enc.reg 9 r ||| Enc.ea ea
  | .sbcd x mode y => 0x8100 ||| Enc.reg 9 x ||| Enc.xmode mode ||| Enc.reg 0 y
  | .orEaDn r sz ea => 0x8000 ||| Enc.reg 9 r ||| Enc.size sz ||| Enc.ea ea
  | .orDnEa r sz ea => 0x8100 ||| Enc.reg 9 r ||| Enc.size sz ||| Enc.ea ea
  | .subaW r ea => 0x90C0 ||| Enc.reg 9 r ||| Enc.ea ea
  | .subaL r ea => 0x91C0 ||| Enc.reg 9 r ||| Enc.ea ea
  | .subx x sz mode y => 0x9100 ||| Enc.reg 9 x ||| Enc.size sz ||| Enc.xmode mode ||| Enc.reg 0 y
  | .subEaDn r sz ea => 0x9000 ||| Enc.reg 9 r ||| Enc.size sz ||| Enc.ea ea
  | .subDnEa r sz ea => 0x9100 ||| Enc.reg 9 r ||| Enc.size sz ||| Enc.ea ea
  | .lineA d => 0xA000 ||| Enc.at_ 0 d
  | .cmpaW r ea => 0xB0C0 ||| Enc.reg 9 r ||| Enc.ea ea
  | .cmpaL r ea => 0xB1C0 ||| Enc.reg 9 r ||| Enc.ea ea
  | .cmpm x sz y => 0xB108 ||| Enc.reg 9 x ||| Enc.size sz ||| Enc.reg 0 y
  | .cmp r sz ea => 0xB000 ||| Enc.reg 9 r ||| Enc.size sz ||| Enc.ea ea
  | .eor r sz ea => 0xB100 ||| Enc.reg 9 r ||| Enc.size sz ||| Enc.ea ea
  | .mulu r ea => 0xC0C0 ||| Enc.reg 9 r ||| Enc.ea ea
  | .muls r ea => 0xC1C0 ||| Enc.reg 9 r ||| Enc.ea ea
  | .abcd x mode y => 0xC100 ||| Enc.reg 9 x ||| Enc.xmode mode ||| Enc.reg 0 y
  | .exgDD x y => 0xC140 ||| Enc.reg 9 x ||| Enc.reg 0 y
  | .exgAA x y => 0xC148 ||| Enc.reg 9 x ||| Enc.reg 0 y
  | .exgDA x y => 0xC188 ||| Enc.reg 9 x ||| Enc.reg 0 y
  | .andEaDn r sz ea => 0xC000 ||| Enc.reg 9 r ||| Enc.size sz ||| Enc.ea ea
  | .andDnEa r sz ea => 0xC100 ||| Enc.reg 9 r ||| Enc.size sz ||| Enc.ea ea
  | .addaW r ea => 0xD0C0 ||| Enc.reg 9 r ||| Enc.ea ea
  | .addaL r ea => 0xD1C0 ||| Enc.reg 9 r ||| Enc.ea ea
  | .addx x sz mode y => 0xD100 ||| Enc.reg 9 x ||| Enc.size sz ||| Enc.xmode mode ||| Enc.reg 0 y
  | .addEaDn r sz ea => 0xD000 ||| Enc.reg 9 r ||| Enc.size sz ||| Enc.ea ea
  | .addDnEa r sz ea => 0xD100 ||| Enc.reg 9 r ||| Enc.size sz ||| Enc.ea ea
  | .asrEa ea => 0xE0C0 ||| Enc.ea ea
  | .aslEa ea => 0xE1C0 ||| Enc.ea ea
  | .lsrEa ea => 0xE2C0 ||| Enc.ea ea
  | .lslEa ea => 0xE3C0 ||| Enc.ea ea
  | .roxrEa ea => 0xE4C0 ||| Enc.ea ea
  | .roxlEa ea => 0xE5C0 ||| Enc.ea ea
  | .rorEa ea => 0xE6C0 ||| Enc.ea ea
  | .rolEa ea => 0xE7C0 ||| Enc.ea ea
  | .asrDn count sz r => 0xE000 ||| Enc.count count ||| Enc.size sz ||| Enc.reg 0 r
  | .aslDn count sz r => 0xE100 ||| Enc.count count ||| Enc.size sz ||| Enc.reg 0 r
  | .lsrDn count sz r => 0xE008 ||| Enc.count count ||| Enc.size sz ||| Enc.reg 0 r
  | .lslDn count sz r => 0xE108 ||| Enc.count count ||| Enc.size sz ||| Enc.reg 0 r
  | .roxrDn count sz r => 0xE010 ||| Enc.count count ||| Enc.size sz ||| Enc.reg 0 r
  | .roxlDn count sz r => 0xE110 ||| Enc.count count ||| Enc.size sz ||| Enc.reg 0 r
  | .rorDn count sz r => 0xE018 ||| Enc.count count ||| Enc.size sz ||| Enc.reg 0 r
  | .rolDn count sz r => 0xE118 ||| Enc.count count ||| Enc.size sz ||| Enc.reg 0 r
  | .lineF d => 0xF000 ||| Enc.at_ 0 d
  | .rAdd _ m n => 0x0000 ||| Enc.rreg 5 m ||| Enc.rreg 0 n
  | .rAddc _ m n => 0x0400 ||| Enc.rreg 5 m ||| Enc.rreg 0 n
  | .rAddq _ q n => 0x0800 ||| Enc.at_ 5 q ||| Enc.rreg 0 n
  | .rAddqt _ q n => 0x0C00 ||| Enc.at_ 5 q ||| Enc.rreg 0 n
  | .rSub _ m n => 0x1000 ||| Enc.rreg 5 m ||| Enc.rreg 0 n
  | .rSubc _ m n => 0x1400 ||| Enc.rreg 5 m ||| Enc.rreg 0 n
  | .rSubq _ q n => 0x1800 ||| Enc.at_ 5 q ||| Enc.rreg 0 n
  | .rSubqt _ q n => 0x1C00 ||| Enc.at_ 5 q ||| Enc.rreg 0 n
  | .rNeg _ n => 0x2000 ||| Enc.rreg 0 n
  | .rAnd _ m n => 0x2400 ||| Enc.rreg 5 m ||| Enc.rreg 0 n
  | .rOr _ m n => 0x2800 ||| Enc.rreg 5 m ||| Enc.rreg 0 n
  | .rXor _ m n => 0x2C00 ||| Enc.rreg 5 m ||| Enc.rreg 0 n
  | .rNot _ n => 0x3000 ||| Enc.rreg 0 n
  | .rBtst _ q n => 0x3400 ||| Enc.at_ 5 q ||| Enc.rreg 0 n
  | .rBset _ q n => 0x3800 ||| Enc.at_ 5 q ||| Enc.rreg 0 n
  | .rBclr _ q n => 0x3C00 ||| Enc.at_ 5 q ||| Enc.rreg 0 n
  | .rMult _ m n => 0x4000 ||| Enc.rreg 5 m ||| Enc.rreg 0 n
  | .rImult _ m n => 0x4400 ||| Enc.rreg 5 m ||| Enc.rreg 0 n
  | .rImultn _ m n => 0x4800 ||| Enc.rreg 5 m ||| Enc.rreg 0 n
  | .rResmac _ n => 0x4C00 ||| Enc.rreg 0 n
  | .rImacn _ m n => 0x5000 ||| Enc.rreg 5 m ||| Enc.rreg 0 n
  | .rDiv _ m n => 0x5400 ||| Enc.rreg 5 m ||| Enc.rreg 0 n
  | .rAbs _ n => 0x5800 ||| Enc.rreg 0 n
  | .rSh _ m n => 0x5C00 ||| Enc.rreg 5 m ||| Enc.rreg 0 n
  | .rShlq _ q n => 0x6000 ||| Enc.at_ 5 q ||| Enc.rreg 0 n
  | .rShrq _ q n => 0x6400 ||| Enc.at_ 5 q ||| Enc.rreg 0 n
  | .rSha _ m n => 0x6800 ||| Enc.rreg 5 m ||| Enc.rreg 0 n
  | .rSharq _ q n => 0x6C00 ||| Enc.at_ 5 q ||| Enc.rreg 0 n
  | .rRor _ m n => 0x7000 ||| Enc.rreg 5 m ||| Enc.rreg 0 n
  | .rRorq _ q n => 0x7400 ||| Enc.at_ 5 q ||| Enc.rreg 0 n
  | .rCmp _ m n => 0x7800 ||| Enc.rreg 5 m ||| Enc.rreg 0 n
  | .rCmpq _ q n => 0x7C00 ||| Enc.at_ 5 q ||| Enc.rreg 0 n
  | .gSat8 n => 0x8000 ||| Enc.rreg 0 n
  | .dSubqmod q n => 0x8000 ||| Enc.at_ 5 q ||| Enc.rreg 0 n
  | .gSat16 n => 0x8400 ||| Enc.rreg 0 n
  | .dSat16s n => 0x8400 ||| Enc.rreg 0 n
  | .rMove _ m n => 0x8800 ||| Enc.rreg 5 m ||| Enc.rreg 0 n
  | .rMoveq _ q n => 0x8C00 ||| Enc.at_ 5 q ||| Enc.rreg 0 n
  | .rMoveta _ m n => 0x9000 ||| Enc.rreg 5 m ||| Enc.rreg 0 n
  | .rMovefa _ m n => 0x9400 ||| Enc.rreg 5 m ||| Enc.rreg 0 n
  | .rMovei _ n => 0x9800 ||| Enc.rreg 0 n
  | .rLoadb _ m n => 0x9C00 ||| Enc.rreg 5 m ||| Enc.rreg 0 n
  | .rLoadw _ m n => 0xA000 ||| Enc.rreg 5 m ||| Enc.rreg 0 n
  | .rLoad _ m n => 0xA400 ||| Enc.rreg 5 m ||| Enc.rreg 0 n
  | .gLoadp m n => 0xA800 ||| Enc.rreg 5 m ||| Enc.rreg 0 n
  | .dSat32s n => 0xA800 ||| Enc.rreg 0 n
  | .rLoadR14q _ q n => 0xAC00 ||| Enc.at_ 5 q ||| Enc.rreg 0 n
  | .rLoadR15q _ q n => 0xB000 ||| Enc.at_ 5 q ||| Enc.rreg 0 n
  | .rStoreb _ m n => 0xB400 ||| Enc.rreg 5 m ||| Enc.rreg 0 n
  | .rStorew _ m n => 0xB800 ||| Enc.rreg 5 m ||| Enc.rreg 0 n
  | .rStore _ m n => 0xBC00 ||| Enc.rreg 5 m ||| Enc.rreg 0 n
  | .gStorep m n => 0xC000 ||| Enc.rreg 5 m ||| Enc.rreg 0 n
  | .dMirror n => 0xC000 ||| Enc.rreg 0 n
  | .rStoreR14q _ q n => 0xC400 ||| Enc.at_ 5 q ||| Enc.rreg 0 n
  | .rStoreR15q _ q n => 0xC800 ||| Enc.at_ 5 q ||| Enc.rreg 0 n
  | .rMovePc _ n => 0xCC00 ||| Enc.rreg 0 n
  | .rJump _ m c => 0xD000 ||| Enc.rreg 5 m ||| Enc.at_ 0 c
  | .rJr _ q c => 0xD400 ||| Enc.at_ 5 q ||| Enc.at_ 0 c
  | .rMmult _ m n => 0xD800 ||| Enc.rreg 5 m ||| Enc.rreg 0 n
  | .rMtoi _ m n => 0xDC00 ||| Enc.rreg 5 m ||| Enc.rreg 0 n
  | .rNormi _ m n => 0xE000 ||| Enc.rreg 5 m ||| Enc.rreg 0 n
  | .rNop _ => 0xE400
  | .rLoadR14m _ m n => 0xE800 ||| Enc.rreg 5 m ||| Enc.rreg 0 n
  | .rLoadR15m _ m n => 0xEC00 ||| Enc.rreg 5 m ||| Enc.rreg 0 n
  | .rStoreR14m _ m n => 0xF000 ||| Enc.rreg 5 m ||| Enc.rreg 0 n
  | .rStoreR15m _ m n => 0xF400 ||| Enc.rreg 5 m ||| Enc.rreg 0 n
  | .gSat24 n => 0xF800 ||| Enc.rreg 0 n
  | .dReserved62 => 0xF800
  | .gPack n => 0xFC00 ||| Enc.rreg 0 n
  | .gUnpack n => 0xFC20 ||| Enc.rreg 0 n
  | .dAddqmod q n => 0xFC00 ||| Enc.at_ 5 q ||| Enc.rreg 0 n

end Sys2Proof
end

