-- ==== Sys2Proof/Machine/RiscArith.lean ====
section
/-! DEFINITION. The RISC units' arithmetic, logic, shift and compare instructions (44_risc_arithmetic_logic.md). A
meaning starts with `pc` just past the instruction's own word (R400, log 1). -/
namespace Sys2Proof.Machine

/-! ### Results with flags -/

/-- `SetZN(r)` (R400). -/
def setZNof (u : Coproc) (r : Long) (s : State) : State := s.setZN u (r == 0) r.msb

/-- A result and a carry into Z, N and C (R400). -/
def setZNCof (u : Coproc) (rc : Long × Bool) (s : State) : State := s.setZNC u (rc.1 == 0) rc.1.msb rc.2

/-- `R[n] <- r; SetZN(r)`. -/
def writeZN (u : Coproc) (n : Fin 32) (r : Long) (s : State) : State := setZNof u r (s.setRreg u n r)

/-- `R[n] <- r; SetZN(r)` and C. -/
def writeZNC (u : Coproc) (n : Fin 32) (rc : Long × Bool) (s : State) : State := setZNCof u rc (s.setRreg u n rc.1)

/-! ### Add and subtract -/

/-- `ADD` (R401). -/
def execRAdd (u : Coproc) (m n : Fin 32) (s : State) : Result :=
  .next (writeZNC u n (riscAdd (s.rreg u n) (s.rreg u m) false) s)

/-- `ADDC` (R402). -/
def execRAddc (u : Coproc) (m n : Fin 32) (s : State) : Result :=
  .next (writeZNC u n (riscAdd (s.rreg u n) (s.rreg u m) (s.risc u).c) s)

/-- `ADDQ` (R403). -/
def execRAddq (u : Coproc) (q : BitVec 5) (n : Fin 32) (s : State) : Result :=
  .next (writeZNC u n (riscAdd (s.rreg u n) (q32Long q) false) s)

/-- `ADDQT` (R404): no flag changes. -/
def execRAddqt (u : Coproc) (q : BitVec 5) (n : Fin 32) (s : State) : Result :=
  .next (s.setRreg u n (s.rreg u n + q32Long q))

/-- `SUB` (R405). -/
def execRSub (u : Coproc) (m n : Fin 32) (s : State) : Result :=
  .next (writeZNC u n (riscSub (s.rreg u n) (s.rreg u m) false) s)

/-- `SUBC` (R406). -/
def execRSubc (u : Coproc) (m n : Fin 32) (s : State) : Result :=
  .next (writeZNC u n (riscSub (s.rreg u n) (s.rreg u m) (s.risc u).c) s)

/-- `SUBQ` (R407). -/
def execRSubq (u : Coproc) (q : BitVec 5) (n : Fin 32) (s : State) : Result :=
  .next (writeZNC u n (riscSub (s.rreg u n) (q32Long q) false) s)

/-- `SUBQT` (R408): no flag changes. -/
def execRSubqt (u : Coproc) (q : BitVec 5) (n : Fin 32) (s : State) : Result :=
  .next (s.setRreg u n (s.rreg u n - q32Long q))

/-- `NEG` (R409). -/
def execRNeg (u : Coproc) (n : Fin 32) (s : State) : Result :=
  .next (writeZNC u n (riscSub 0 (s.rreg u n) false) s)

/-! ### Logic and bit -/

/-- `AND` (R410). -/
def execRAnd (u : Coproc) (m n : Fin 32) (s : State) : Result :=
  .next (writeZN u n (s.rreg u n &&& s.rreg u m) s)

/-- `OR` (R411). -/
def execROr (u : Coproc) (m n : Fin 32) (s : State) : Result :=
  .next (writeZN u n (s.rreg u n ||| s.rreg u m) s)

/-- `XOR` (R412). -/
def execRXor (u : Coproc) (m n : Fin 32) (s : State) : Result :=
  .next (writeZN u n (s.rreg u n ^^^ s.rreg u m) s)

/-- `NOT` (R413). -/
def execRNot (u : Coproc) (n : Fin 32) (s : State) : Result := .next (writeZN u n (~~~s.rreg u n) s)

/-- `BTST` (R414): Z only. -/
def execRBtst (u : Coproc) (q : BitVec 5) (n : Fin 32) (s : State) : Result :=
  .next (s.setZN u (!(s.rreg u n).getLsbD (u5 q)) (s.risc u).n)

/-- `BSET` (R415). -/
def execRBset (u : Coproc) (q : BitVec 5) (n : Fin 32) (s : State) : Result :=
  .next (writeZN u n (s.rreg u n ||| 1#32 <<< u5 q) s)

/-- `BCLR` (R416). -/
def execRBclr (u : Coproc) (q : BitVec 5) (n : Fin 32) (s : State) : Result :=
  .next (writeZN u n (s.rreg u n &&& ~~~(1#32 <<< u5 q)) s)

/-! ### Multiply, accumulate, divide -/

/-- `MULT` (R417): unsigned. -/
def execRMult (u : Coproc) (m n : Fin 32) (s : State) : Result :=
  .next (writeZN u n
    (BitVec.ofNat 32 (((s.rreg u n).setWidth 16).toNat * ((s.rreg u m).setWidth 16).toNat)) s)

/-- `IMULT` (R418): signed. -/
def execRImult (u : Coproc) (m n : Fin 32) (s : State) : Result :=
  .next (writeZN u n (BitVec.ofInt 32 (s16 (s.rreg u n) * s16 (s.rreg u m))) s)

/-- `IMULTN` (R420): into the accumulator. -/
def execRImultn (u : Coproc) (m n : Fin 32) (s : State) : Result :=
  let p := s16 (s.rreg u n) * s16 (s.rreg u m)
  .next (setZNof u (BitVec.ofInt 32 p) (s.setAcc u p))

/-- `IMACN` (R421): no flag changes. -/
def execRImacn (u : Coproc) (m n : Fin 32) (s : State) : Result :=
  .next (s.addAcc u (s16 (s.rreg u n) * s16 (s.rreg u m)))

/-- `RESMAC` (R422). -/
def execRResmac (u : Coproc) (n : Fin 32) (s : State) : Result := .next (s.setRreg u n (s.accLow u))

/-- `ABS` (R423): 0x80000000 stays. -/
def execRAbs (u : Coproc) (n : Fin 32) (s : State) : Result :=
  let v := s.rreg u n
  if v = 0x80000000 then .next (s.setZNC u false true v.msb)
  else
    let r := BitVec.ofNat 32 v.toInt.natAbs
    .next ((s.setRreg u n r).setZNC u (r == 0) false v.msb)

/-- Quotient and remainder of `DIV` (R424). -/
def riscDivide (fixedPoint : Bool) (dividend divisor : Long) : Long × Long :=
  let d := if fixedPoint then dividend.toNat * 2 ^ 16 else dividend.toNat
  (BitVec.ofNat 32 (d / divisor.toNat), BitVec.ofNat 32 (d % divisor.toNat))

/-- `DIV` (R424): a zero divisor gives 0xFFFFFFFF and leaves REMAIN. -/
def execRDiv (u : Coproc) (m n : Fin 32) (s : State) : Result :=
  if s.rreg u m = 0 then .next (s.setRreg u n 0xFFFFFFFF)
  else
    let q := riscDivide (s.risc u).divOffset (s.rreg u n) (s.rreg u m)
    let t := s.setRreg u n q.1
    .next (t.setRisc u { t.risc u with remain := q.2 })

/-! ### Shifts and rotates -/

/-- A left shift; by 32 or more it gives 0 (R425). -/
def shiftLeft (v : Long) (k : Nat) : Long := if 32 ≤ k then 0 else v <<< k

/-- A logical right shift; by 32 or more it gives 0 (R425). -/
def shiftRight (v : Long) (k : Nat) : Long := if 32 ≤ k then 0 else v >>> k

/-- An arithmetic right shift by the smaller of `k` and 31 (R428). -/
def shiftArith (v : Long) (k : Nat) : Long := v.sshiftRight (min k 31)

/-- `SH` (R425): negative is left; C is the end bit of the value before the shift. -/
def execRSh (u : Coproc) (m n : Fin 32) (s : State) : Result :=
  let v := s.rreg u n
  let k := (s.rreg u m).toInt
  if k < 0 then .next (writeZNC u n (shiftLeft v k.natAbs, v.msb) s)
  else .next (writeZNC u n (shiftRight v k.natAbs, v.getLsbD 0) s)

/-- `SHLQ` (R426). -/
def execRShlq (u : Coproc) (q : BitVec 5) (n : Fin 32) (s : State) : Result :=
  let v := s.rreg u n
  .next (writeZNC u n (shiftLeft v (shlCount q), v.msb) s)

/-- `SHRQ` (R427). -/
def execRShrq (u : Coproc) (q : BitVec 5) (n : Fin 32) (s : State) : Result :=
  let v := s.rreg u n
  .next (writeZNC u n (shiftRight v (q32 q), v.getLsbD 0) s)

/-- `SHA` (R428): the right shift copies the sign. -/
def execRSha (u : Coproc) (m n : Fin 32) (s : State) : Result :=
  let v := s.rreg u n
  let k := (s.rreg u m).toInt
  if k < 0 then .next (writeZNC u n (shiftLeft v k.natAbs, v.msb) s)
  else .next (writeZNC u n (shiftArith v k.natAbs, v.getLsbD 0) s)

/-- `SHARQ` (R429). -/
def execRSharq (u : Coproc) (q : BitVec 5) (n : Fin 32) (s : State) : Result :=
  let v := s.rreg u n
  .next (writeZNC u n (shiftArith v (q32 q), v.getLsbD 0) s)

/-- Rotate right by `k` modulo 32; C is bit 31 of the value before it (R430). -/
def rotateRight (v : Long) (k : Nat) : Long × Bool := (v >>> (k % 32) ||| v <<< (32 - k % 32), v.msb)

/-- `ROR` (R430). -/
def execRRor (u : Coproc) (m n : Fin 32) (s : State) : Result :=
  .next (writeZNC u n (rotateRight (s.rreg u n) ((s.rreg u m).toNat % 32)) s)

/-- `RORQ` (R431): a rotation by 32 is the identity. -/
def execRRorq (u : Coproc) (q : BitVec 5) (n : Fin 32) (s : State) : Result :=
  .next (writeZNC u n (rotateRight (s.rreg u n) (q32 q)) s)

/-! ### Compare -/

/-- `CMP` (R432): nothing is written but the flags. -/
def execRCmp (u : Coproc) (m n : Fin 32) (s : State) : Result :=
  .next (setZNCof u (riscSub (s.rreg u n) (s.rreg u m) false) s)

/-- `CMPQ` (R433). -/
def execRCmpq (u : Coproc) (q : BitVec 5) (n : Fin 32) (s : State) : Result :=
  .next (setZNCof u (riscSub (s.rreg u n) (s5 q) false) s)

end Sys2Proof.Machine
end

