-- ==== Sys2Proof/Machine/RiscMem.lean ====
section
/-! DEFINITION. The RISC units' moves, loads and stores (45_risc_move_load_store.md). No instruction here changes a
flag. -/
namespace Sys2Proof.Machine

/-! ### Register moves -/

/-- `MOVE` (R451). -/
def execRMove (u : Coproc) (m n : Fin 32) (s : State) : Result := .next (s.setRreg u n (s.rreg u m))

/-- `MOVEQ` (R452). -/
def execRMoveq (u : Coproc) (q : BitVec 5) (n : Fin 32) (s : State) : Result :=
  .next (s.setRreg u n (BitVec.ofNat 32 (u5 q)))

/-- `MOVETA` (R453). -/
def execRMoveta (u : Coproc) (m n : Fin 32) (s : State) : Result := .next (s.setAltReg u n (s.rreg u m))

/-- `MOVEFA` (R454). -/
def execRMovefa (u : Coproc) (m n : Fin 32) (s : State) : Result := .next (s.setRreg u n (s.altReg u m))

/-- `MOVEI` (R455): the word at the lower address holds the low half (R202). -/
def execRMovei (u : Coproc) (n : Fin 32) (s : State) : Result :=
  let lo := fetch16 (.risc u) s
  let hi := fetch16 (.risc u) lo.2
  .next (hi.2.setRreg u n (hi.1 ++ lo.1))

/-- `MOVE PC` (R456): the address of the instruction's own word. -/
def execRMovePc (u : Coproc) (n : Fin 32) (s : State) : Result := .next (s.setRreg u n ((s.risc u).pc - 2))

/-! ### Loads -/

/-- `R[n] <- MemRead(a, 4)`. -/
def riscLoad (u : Coproc) (a : Long) (n : Fin 32) (s : State) : State :=
  let v := readLong (.risc u) a s
  v.2.setRreg u n v.1

/-- `LOADB` (R458). -/
def execRLoadb (u : Coproc) (m n : Fin 32) (s : State) : Result :=
  let v := loadByte u (s.rreg u m) s
  .next (v.2.setRreg u n v.1)

/-- `LOADW` (R459). -/
def execRLoadw (u : Coproc) (m n : Fin 32) (s : State) : Result :=
  let v := loadWord u (s.rreg u m) s
  .next (v.2.setRreg u n v.1)

/-- `LOAD (Rm)` (R460). -/
def execRLoad (u : Coproc) (m n : Fin 32) (s : State) : Result := .next (riscLoad u (s.rreg u m) n s)

/-- `LOADP` (R462), GPU only: the high long is at the lower address. -/
def execGLoadp (m n : Fin 32) (s : State) : Result :=
  let a := s.rreg .gpu m
  let hi := readLong (.risc .gpu) a s
  .next (riscLoad .gpu (a + 4) n (hi.2.setHidata hi.1))

/-- `4*q` as an offset (R463). -/
def q32Offset (q : BitVec 5) : Long := BitVec.ofNat 32 (4 * q32 q)

/-- `LOAD (R14+q)` (R463). -/
def execRLoadR14q (u : Coproc) (q : BitVec 5) (n : Fin 32) (s : State) : Result :=
  .next (riscLoad u (s.rreg u 14 + q32Offset q) n s)

/-- `LOAD (R15+q)` (R464). -/
def execRLoadR15q (u : Coproc) (q : BitVec 5) (n : Fin 32) (s : State) : Result :=
  .next (riscLoad u (s.rreg u 15 + q32Offset q) n s)

/-- `LOAD (R14+Rm)` (R471). -/
def execRLoadR14m (u : Coproc) (m n : Fin 32) (s : State) : Result :=
  .next (riscLoad u (s.rreg u 14 + s.rreg u m) n s)

/-- `LOAD (R15+Rm)` (R472). -/
def execRLoadR15m (u : Coproc) (m n : Fin 32) (s : State) : Result :=
  .next (riscLoad u (s.rreg u 15 + s.rreg u m) n s)

/-! ### Stores -/

/-- `STOREB` (R465). -/
def execRStoreb (u : Coproc) (m n : Fin 32) (s : State) : Result := .next (storeByte u (s.rreg u m) (s.rreg u n) s)

/-- `STOREW` (R466). -/
def execRStorew (u : Coproc) (m n : Fin 32) (s : State) : Result := .next (storeWord u (s.rreg u m) (s.rreg u n) s)

/-- `STORE (Rm)` (R467). -/
def execRStore (u : Coproc) (m n : Fin 32) (s : State) : Result :=
  .next (writeLong (.risc u) (s.rreg u m) (s.rreg u n) s)

/-- `STOREP` (R468), GPU only: the high long first. RM and RN are read before anything is written (R400). -/
def execGStorep (m n : Fin 32) (s : State) : Result :=
  let a := s.rreg .gpu m
  let v := s.rreg .gpu n
  .next (writeLong (.risc .gpu) (a + 4) v (writeLong (.risc .gpu) a s.gpu.hidata s))

/-- `STORE (R14+q)` (R469). -/
def execRStoreR14q (u : Coproc) (q : BitVec 5) (n : Fin 32) (s : State) : Result :=
  .next (writeLong (.risc u) (s.rreg u 14 + q32Offset q) (s.rreg u n) s)

/-- `STORE (R15+q)` (R470). -/
def execRStoreR15q (u : Coproc) (q : BitVec 5) (n : Fin 32) (s : State) : Result :=
  .next (writeLong (.risc u) (s.rreg u 15 + q32Offset q) (s.rreg u n) s)

/-- `STORE (R14+Rm)` (R473). -/
def execRStoreR14m (u : Coproc) (m n : Fin 32) (s : State) : Result :=
  .next (writeLong (.risc u) (s.rreg u 14 + s.rreg u m) (s.rreg u n) s)

/-- `STORE (R15+Rm)` (R474). -/
def execRStoreR15m (u : Coproc) (m n : Fin 32) (s : State) : Result :=
  .next (writeLong (.risc u) (s.rreg u 15 + s.rreg u m) (s.rreg u n) s)

end Sys2Proof.Machine
end

