-- ==== Sys2Proof/Machine/RiscSpecial.lean ====
section
/-! DEFINITION. NOP, the matrix and float helpers and the role-specific instructions of the RISC units
(46_risc_control_and_role_specific.md, but for JUMP and JR). -/
namespace Sys2Proof.Machine

/-- `NOP` (R495). -/
def execRNop (_u : Coproc) (s : State) : Result := .next s

/-! ### GPU only -/

/-- Saturate a signed value to 0 and an upper bound (R500). -/
def saturate (bound : Nat) (v : Long) : Long :=
  if v.toInt < 0 then 0 else if (bound : Int) < v.toInt then BitVec.ofNat 32 bound else v

/-- `SAT8` (R500). -/
def execGSat8 (n : Fin 32) (s : State) : Result := .next (writeZN .gpu n (saturate 0xFF (s.rreg .gpu n)) s)

/-- `SAT16` (R501). -/
def execGSat16 (n : Fin 32) (s : State) : Result := .next (writeZN .gpu n (saturate 0xFFFF (s.rreg .gpu n)) s)

/-- `SAT24` (R502). -/
def execGSat24 (n : Fin 32) (s : State) : Result := .next (writeZN .gpu n (saturate 0xFFFFFF (s.rreg .gpu n)) s)

/-- The packed pixel of `PACK` (R503). -/
def pack (v : Long) : Long := ((v >>> 10) &&& 0xF000) ||| ((v >>> 5) &&& 0x0F00) ||| (v &&& 0xFF)

/-- The spread pixel of `UNPACK` (R504). -/
def unpack (v : Long) : Long := ((v &&& 0xF000) <<< 10) ||| ((v &&& 0x0F00) <<< 5) ||| (v &&& 0xFF)

/-- `PACK` (R503). -/
def execGPack (n : Fin 32) (s : State) : Result := .next (s.setRreg .gpu n (pack (s.rreg .gpu n)))

/-- `UNPACK` (R504). -/
def execGUnpack (n : Fin 32) (s : State) : Result := .next (s.setRreg .gpu n (unpack (s.rreg .gpu n)))

/-! ### Both units: matrix and float helpers -/

/-- Element `i` of the register vector of `MMULT`: a half of a register of the other bank, the register index modulo 32
(R505). -/
def mmultElement (u : Coproc) (m : Fin 32) (i : Nat) (s : State) : Int :=
  let g := s.altReg u (m + Fin.ofNat 32 (i / 2))
  if i % 2 = 1 then s16 (g >>> 16) else s16 g

/-- The loop of `MMULT` (R505): `left` elements from `i` on, the matrix element at `addr`; the sum and the state the
reads leave. -/
def mmultLoop (u : Coproc) (m : Fin 32) (stride : Long) : Nat → Nat → Long → Int → State → Int × State
  | 0, _, _, acc, s => (acc, s)
  | left + 1, i, addr, acc, s =>
    let a := mmultElement u m i s
    let b := readLong (.risc u) addr s
    mmultLoop u m stride left (i + 1) (addr + stride) (acc + a * s16 b.1) b.2

/-- `MMULT` (R505). -/
def execRMmult (u : Coproc) (m n : Fin 32) (s : State) : Result :=
  let count := (s.risc u).mtxWidth.toNat
  let addr : Long := BitVec.ofNat 32 (Config.localBase u) + ((s.risc u).mtxa ++ 0#2).setWidth 32
  let stride : Long := BitVec.ofNat 32 (if (s.risc u).matCol then 4 * count else 4)
  let r := mmultLoop u m stride count 0 addr 0 s
  .next (writeZN u n (BitVec.ofInt 32 r.1) r.2)

/-- `MTOI` (R506). -/
def execRMtoi (u : Coproc) (m n : Fin 32) (s : State) : Result :=
  let v := s.rreg u m
  .next (writeZN u n ((v.sshiftRight 8 &&& 0xFF800000) ||| (v &&& 0x007FFFFF)) s)

/-- The first loop of `NORMI` (R507): shift left while bits 31:22 are 0. A nonzero value leaves it within 22 turns. -/
def normiUp : Nat → Long → Int → Long × Int
  | 0, v, r => (v, r)
  | fuel + 1, v, r => if v &&& 0xFFC00000 = 0 then normiUp fuel (v <<< 1) (r - 1) else (v, r)

/-- The second loop of `NORMI` (R507): shift right while a bit of 31:23 is 1. Every value leaves it within 9 turns. -/
def normiDown : Nat → Long → Int → Int
  | 0, _, r => r
  | fuel + 1, v, r => if v &&& 0xFF800000 = 0 then r else normiDown fuel (v >>> 1) (r + 1)

/-- The normalisation count of a value (R507). -/
def normiCount (v : Long) : Int :=
  if v = 0 then 0
  else
    let t := normiUp 32 v 0
    normiDown 32 t.1 t.2

/-- `NORMI` (R507). -/
def execRNormi (u : Coproc) (m n : Fin 32) (s : State) : Result :=
  .next (writeZN u n (BitVec.ofInt 32 (normiCount (s.rreg u m))) s)

/-! ### DSP only -/

/-- `SAT16S` (R510). -/
def execDSat16s (n : Fin 32) (s : State) : Result :=
  let v := s.rreg .dsp n
  let r : Long := if v.toInt < -32768 then 0xFFFF8000 else if 32767 < v.toInt then 0x00007FFF else v
  .next (writeZN .dsp n r s)

/-- `SAT32S` (R515): by the accumulator's top byte. -/
def execDSat32s (n : Fin 32) (s : State) : Result :=
  let t := (s.dsp.acc.extractLsb' 32 8).toInt
  let r : Long := if t < -1 then 0x80000000 else if 0 < t then 0x7FFFFFFF else s.rreg .dsp n
  .next (writeZN .dsp n r s)

/-- The merge of a circular-buffer step: bits where MOD is 1 keep their value; the flags are Z and N of the merged
result and C of the plain sum (R516). -/
def modMerge (n : Fin 32) (t : Long × Bool) (s : State) : State :=
  let r := (t.1 &&& ~~~s.dsp.modulo) ||| (s.rreg .dsp n &&& s.dsp.modulo)
  writeZNC .dsp n (r, t.2) s

/-- `ADDQMOD` (R516). -/
def execDAddqmod (q : BitVec 5) (n : Fin 32) (s : State) : Result :=
  .next (modMerge n (riscAdd (s.rreg .dsp n) (q32Long q) false) s)

/-- `SUBQMOD` (R517). -/
def execDSubqmod (q : BitVec 5) (n : Fin 32) (s : State) : Result :=
  .next (modMerge n (riscSub (s.rreg .dsp n) (q32Long q) false) s)

/-- `MIRROR` (R518). -/
def execDMirror (n : Fin 32) (s : State) : Result := .next (writeZN .dsp n (s.rreg .dsp n).reverse s)

/-- DSP opcode 62, reserved: executes as NOP (R519). -/
def execDReserved62 (s : State) : Result := .next s

end Sys2Proof.Machine
end

