-- ==== Sys2Proof/Machine/RiscSlot.lean ====
section
/-! DEFINITION. JUMP and JR with their delay slot (R490 to R494): the slot's instruction runs inside the jump's own
step, so this file has a dispatcher of its own for the instructions a slot may hold. -/
namespace Sys2Proof.Machine

/-- Run the instruction of a delay slot. JUMP, JR and MOVEI are not allowed there (R493, F1, log 12); the CPU's
instructions never come out of a unit's decoder (R206). -/
def execSlot (i : Instr) (s : State) : Result :=
  match i with
  | .rAdd u m n => execRAdd u m n s
  | .rAddc u m n => execRAddc u m n s
  | .rAddq u q n => execRAddq u q n s
  | .rAddqt u q n => execRAddqt u q n s
  | .rSub u m n => execRSub u m n s
  | .rSubc u m n => execRSubc u m n s
  | .rSubq u q n => execRSubq u q n s
  | .rSubqt u q n => execRSubqt u q n s
  | .rNeg u n => execRNeg u n s
  | .rAnd u m n => execRAnd u m n s
  | .rOr u m n => execROr u m n s
  | .rXor u m n => execRXor u m n s
  | .rNot u n => execRNot u n s
  | .rBtst u q n => execRBtst u q n s
  | .rBset u q n => execRBset u q n s
  | .rBclr u q n => execRBclr u q n s
  | .rMult u m n => execRMult u m n s
  | .rImult u m n => execRImult u m n s
  | .rImultn u m n => execRImultn u m n s
  | .rResmac u n => execRResmac u n s
  | .rImacn u m n => execRImacn u m n s
  | .rDiv u m n => execRDiv u m n s
  | .rAbs u n => execRAbs u n s
  | .rSh u m n => execRSh u m n s
  | .rShlq u q n => execRShlq u q n s
  | .rShrq u q n => execRShrq u q n s
  | .rSha u m n => execRSha u m n s
  | .rSharq u q n => execRSharq u q n s
  | .rRor u m n => execRRor u m n s
  | .rRorq u q n => execRRorq u q n s
  | .rCmp u m n => execRCmp u m n s
  | .rCmpq u q n => execRCmpq u q n s
  | .gSat8 n => execGSat8 n s
  | .dSubqmod q n => execDSubqmod q n s
  | .gSat16 n => execGSat16 n s
  | .dSat16s n => execDSat16s n s
  | .rMove u m n => execRMove u m n s
  | .rMoveq u q n => execRMoveq u q n s
  | .rMoveta u m n => execRMoveta u m n s
  | .rMovefa u m n => execRMovefa u m n s
  | .rLoadb u m n => execRLoadb u m n s
  | .rLoadw u m n => execRLoadw u m n s
  | .rLoad u m n => execRLoad u m n s
  | .gLoadp m n => execGLoadp m n s
  | .dSat32s n => execDSat32s n s
  | .rLoadR14q u q n => execRLoadR14q u q n s
  | .rLoadR15q u q n => execRLoadR15q u q n s
  | .rStoreb u m n => execRStoreb u m n s
  | .rStorew u m n => execRStorew u m n s
  | .rStore u m n => execRStore u m n s
  | .gStorep m n => execGStorep m n s
  | .dMirror n => execDMirror n s
  | .rStoreR14q u q n => execRStoreR14q u q n s
  | .rStoreR15q u q n => execRStoreR15q u q n s
  | .rMovePc u n => execRMovePc u n s
  | .rMmult u m n => execRMmult u m n s
  | .rMtoi u m n => execRMtoi u m n s
  | .rNormi u m n => execRNormi u m n s
  | .rNop u => execRNop u s
  | .rLoadR14m u m n => execRLoadR14m u m n s
  | .rLoadR15m u m n => execRLoadR15m u m n s
  | .rStoreR14m u m n => execRStoreR14m u m n s
  | .rStoreR15m u m n => execRStoreR15m u m n s
  | .gSat24 n => execGSat24 n s
  | .dReserved62 => execDReserved62 s
  | .gPack n => execGPack n s
  | .gUnpack n => execGUnpack n s
  | .dAddqmod q n => execDAddqmod q n s
  | .rJump _ _ _ => .refused .jumpOrMoveiInSlot
  | .rJr _ _ _ => .refused .jumpOrMoveiInSlot
  | .rMovei _ _ => .refused .jumpOrMoveiInSlot
  | _ => .refused .jumpOrMoveiInSlot

/-- `DelaySlot(); pc <- target` (R490, R492). The jump's own cost is charged first, so that the step's cost is the sum
over the two instructions (R651). Every word decodes on a unit (R206), so the last arm is never reached. -/
def jumpTo (u : Coproc) (target : Long) (s : State) : Result :=
  let w := fetch16 (.risc u) (s.chargeFetched (.risc u))
  match decode (.risc u) w.1 with
  | .ok i =>
    match execSlot i w.2 with
    | .next t => .next (t.setRpc u target)
    | .fault r => .fault r
    | .refused r => .refused r
  | .error _ => .next (w.2.setRpc u target)

/-- `JUMP` (R490): RM is read before the slot runs. -/
def execRJump (u : Coproc) (m : Fin 32) (c : BitVec 5) (s : State) : Result :=
  if riscCond c (s.risc u) then jumpTo u (s.rreg u m) s else .next s

/-- `JR` (R491): the offset counts words from the word after the JR. -/
def execRJr (u : Coproc) (q c : BitVec 5) (s : State) : Result :=
  if riscCond c (s.risc u) then jumpTo u ((s.risc u).pc + s5 q <<< 1) s else .next s

end Sys2Proof.Machine
end

