-- ==== Sys2Proof/Machine/Dispatch.lean ====
section
/-! DEFINITION. One arm per instruction: its meaning. -/
namespace Sys2Proof.Machine

def exec (i : Instr) (s : State) : Host.Outcome State Fault Refusal :=
  match i with
  | .oriToCcr => Sys2Proof.Machine.execOriToCcr s
  | .oriToSr => Sys2Proof.Machine.execOriToSr s
  | .andiToCcr => Sys2Proof.Machine.execAndiToCcr s
  | .andiToSr => Sys2Proof.Machine.execAndiToSr s
  | .eoriToCcr => Sys2Proof.Machine.execEoriToCcr s
  | .eoriToSr => Sys2Proof.Machine.execEoriToSr s
  | .ori sz ea => Sys2Proof.Machine.execOri sz ea s
  | .andi sz ea => Sys2Proof.Machine.execAndi sz ea s
  | .subi sz ea => Sys2Proof.Machine.execSubi sz ea s
  | .addi sz ea => Sys2Proof.Machine.execAddi sz ea s
  | .eori sz ea => Sys2Proof.Machine.execEori sz ea s
  | .cmpi sz ea => Sys2Proof.Machine.execCmpi sz ea s
  | .btstImm ea => Sys2Proof.Machine.execBtstImm ea s
  | .bchgImm ea => Sys2Proof.Machine.execBchgImm ea s
  | .bclrImm ea => Sys2Proof.Machine.execBclrImm ea s
  | .bsetImm ea => Sys2Proof.Machine.execBsetImm ea s
  | .movep r dir sz a => Sys2Proof.Machine.execMovep r dir sz a s
  | .btstReg r ea => Sys2Proof.Machine.execBtstReg r ea s
  | .bchgReg r ea => Sys2Proof.Machine.execBchgReg r ea s
  | .bclrReg r ea => Sys2Proof.Machine.execBclrReg r ea s
  | .bsetReg r ea => Sys2Proof.Machine.execBsetReg r ea s
  | .moveaL r ea => Sys2Proof.Machine.execMoveaL r ea s
  | .moveaW r ea => Sys2Proof.Machine.execMoveaW r ea s
  | .moveB dst src => Sys2Proof.Machine.execMoveB dst src s
  | .moveL dst src => Sys2Proof.Machine.execMoveL dst src s
  | .moveW dst src => Sys2Proof.Machine.execMoveW dst src s
  | .illegal => Sys2Proof.Machine.execIllegal s
  | .reset => Sys2Proof.Machine.execReset s
  | .nop => Sys2Proof.Machine.execNop s
  | .stop => Sys2Proof.Machine.execStop s
  | .rte => Sys2Proof.Machine.execRte s
  | .rts => Sys2Proof.Machine.execRts s
  | .trapv => Sys2Proof.Machine.execTrapv s
  | .rtr => Sys2Proof.Machine.execRtr s
  | .trap v => Sys2Proof.Machine.execTrap v s
  | .link r => Sys2Proof.Machine.execLink r s
  | .unlk r => Sys2Proof.Machine.execUnlk r s
  | .moveAnUsp r => Sys2Proof.Machine.execMoveAnUsp r s
  | .moveUspAn r => Sys2Proof.Machine.execMoveUspAn r s
  | .jsr ea => Sys2Proof.Machine.execJsr ea s
  | .jmp ea => Sys2Proof.Machine.execJmp ea s
  | .swap r => Sys2Proof.Machine.execSwap r s
  | .pea ea => Sys2Proof.Machine.execPea ea s
  | .extW r => Sys2Proof.Machine.execExtW r s
  | .extL r => Sys2Proof.Machine.execExtL r s
  | .movemRegsEa sz ea => Sys2Proof.Machine.execMovemRegsEa sz ea s
  | .movemEaRegs sz ea => Sys2Proof.Machine.execMovemEaRegs sz ea s
  | .nbcd ea => Sys2Proof.Machine.execNbcd ea s
  | .tas ea => Sys2Proof.Machine.execTas ea s
  | .tst sz ea => Sys2Proof.Machine.execTst sz ea s
  | .moveSrEa ea => Sys2Proof.Machine.execMoveSrEa ea s
  | .moveEaCcr ea => Sys2Proof.Machine.execMoveEaCcr ea s
  | .moveEaSr ea => Sys2Proof.Machine.execMoveEaSr ea s
  | .negx sz ea => Sys2Proof.Machine.execNegx sz ea s
  | .clr sz ea => Sys2Proof.Machine.execClr sz ea s
  | .neg sz ea => Sys2Proof.Machine.execNeg sz ea s
  | .notEa sz ea => Sys2Proof.Machine.execNotEa sz ea s
  | .chk r ea => Sys2Proof.Machine.execChk r ea s
  | .lea r ea => Sys2Proof.Machine.execLea r ea s
  | .dbcc c r => Sys2Proof.Machine.execDbcc c r s
  | .scc c ea => Sys2Proof.Machine.execScc c ea s
  | .addq q sz ea => Sys2Proof.Machine.execAddq q sz ea s
  | .subq q sz ea => Sys2Proof.Machine.execSubq q sz ea s
  | .bra disp => Sys2Proof.Machine.execBra disp s
  | .bsr disp => Sys2Proof.Machine.execBsr disp s
  | .bcc c disp => Sys2Proof.Machine.execBcc c disp s
  | .moveq r data => Sys2Proof.Machine.execMoveq r data s
  | .divu r ea => Sys2Proof.Machine.execDivu r ea s
  | .divs r ea => Sys2Proof.Machine.execDivs r ea s
  | .sbcd x mode y => Sys2Proof.Machine.execSbcd x mode y s
  | .orEaDn r sz ea => Sys2Proof.Machine.execOrEaDn r sz ea s
  | .orDnEa r sz ea => Sys2Proof.Machine.execOrDnEa r sz ea s
  | .subaW r ea => Sys2Proof.Machine.execSubaW r ea s
  | .subaL r ea => Sys2Proof.Machine.execSubaL r ea s
  | .subx x sz mode y => Sys2Proof.Machine.execSubx x sz mode y s
  | .subEaDn r sz ea => Sys2Proof.Machine.execSubEaDn r sz ea s
  | .subDnEa r sz ea => Sys2Proof.Machine.execSubDnEa r sz ea s
  | .lineA d => Sys2Proof.Machine.execLineA d s
  | .cmpaW r ea => Sys2Proof.Machine.execCmpaW r ea s
  | .cmpaL r ea => Sys2Proof.Machine.execCmpaL r ea s
  | .cmpm x sz y => Sys2Proof.Machine.execCmpm x sz y s
  | .cmp r sz ea => Sys2Proof.Machine.execCmp r sz ea s
  | .eor r sz ea => Sys2Proof.Machine.execEor r sz ea s
  | .mulu r ea => Sys2Proof.Machine.execMulu r ea s
  | .muls r ea => Sys2Proof.Machine.execMuls r ea s
  | .abcd x mode y => Sys2Proof.Machine.execAbcd x mode y s
  | .exgDD x y => Sys2Proof.Machine.execExgDD x y s
  | .exgAA x y => Sys2Proof.Machine.execExgAA x y s
  | .exgDA x y => Sys2Proof.Machine.execExgDA x y s
  | .andEaDn r sz ea => Sys2Proof.Machine.execAndEaDn r sz ea s
  | .andDnEa r sz ea => Sys2Proof.Machine.execAndDnEa r sz ea s
  | .addaW r ea => Sys2Proof.Machine.execAddaW r ea s
  | .addaL r ea => Sys2Proof.Machine.execAddaL r ea s
  | .addx x sz mode y => Sys2Proof.Machine.execAddx x sz mode y s
  | .addEaDn r sz ea => Sys2Proof.Machine.execAddEaDn r sz ea s
  | .addDnEa r sz ea => Sys2Proof.Machine.execAddDnEa r sz ea s
  | .asrEa ea => Sys2Proof.Machine.execAsrEa ea s
  | .aslEa ea => Sys2Proof.Machine.execAslEa ea s
  | .lsrEa ea => Sys2Proof.Machine.execLsrEa ea s
  | .lslEa ea => Sys2Proof.Machine.execLslEa ea s
  | .roxrEa ea => Sys2Proof.Machine.execRoxrEa ea s
  | .roxlEa ea => Sys2Proof.Machine.execRoxlEa ea s
  | .rorEa ea => Sys2Proof.Machine.execRorEa ea s
  | .rolEa ea => Sys2Proof.Machine.execRolEa ea s
  | .asrDn count sz r => Sys2Proof.Machine.execAsrDn count sz r s
  | .aslDn count sz r => Sys2Proof.Machine.execAslDn count sz r s
  | .lsrDn count sz r => Sys2Proof.Machine.execLsrDn count sz r s
  | .lslDn count sz r => Sys2Proof.Machine.execLslDn count sz r s
  | .roxrDn count sz r => Sys2Proof.Machine.execRoxrDn count sz r s
  | .roxlDn count sz r => Sys2Proof.Machine.execRoxlDn count sz r s
  | .rorDn count sz r => Sys2Proof.Machine.execRorDn count sz r s
  | .rolDn count sz r => Sys2Proof.Machine.execRolDn count sz r s
  | .lineF d => Sys2Proof.Machine.execLineF d s
  | .rAdd u m n => Sys2Proof.Machine.execRAdd u m n s
  | .rAddc u m n => Sys2Proof.Machine.execRAddc u m n s
  | .rAddq u q n => Sys2Proof.Machine.execRAddq u q n s
  | .rAddqt u q n => Sys2Proof.Machine.execRAddqt u q n s
  | .rSub u m n => Sys2Proof.Machine.execRSub u m n s
  | .rSubc u m n => Sys2Proof.Machine.execRSubc u m n s
  | .rSubq u q n => Sys2Proof.Machine.execRSubq u q n s
  | .rSubqt u q n => Sys2Proof.Machine.execRSubqt u q n s
  | .rNeg u n => Sys2Proof.Machine.execRNeg u n s
  | .rAnd u m n => Sys2Proof.Machine.execRAnd u m n s
  | .rOr u m n => Sys2Proof.Machine.execROr u m n s
  | .rXor u m n => Sys2Proof.Machine.execRXor u m n s
  | .rNot u n => Sys2Proof.Machine.execRNot u n s
  | .rBtst u q n => Sys2Proof.Machine.execRBtst u q n s
  | .rBset u q n => Sys2Proof.Machine.execRBset u q n s
  | .rBclr u q n => Sys2Proof.Machine.execRBclr u q n s
  | .rMult u m n => Sys2Proof.Machine.execRMult u m n s
  | .rImult u m n => Sys2Proof.Machine.execRImult u m n s
  | .rImultn u m n => Sys2Proof.Machine.execRImultn u m n s
  | .rResmac u n => Sys2Proof.Machine.execRResmac u n s
  | .rImacn u m n => Sys2Proof.Machine.execRImacn u m n s
  | .rDiv u m n => Sys2Proof.Machine.execRDiv u m n s
  | .rAbs u n => Sys2Proof.Machine.execRAbs u n s
  | .rSh u m n => Sys2Proof.Machine.execRSh u m n s
  | .rShlq u q n => Sys2Proof.Machine.execRShlq u q n s
  | .rShrq u q n => Sys2Proof.Machine.execRShrq u q n s
  | .rSha u m n => Sys2Proof.Machine.execRSha u m n s
  | .rSharq u q n => Sys2Proof.Machine.execRSharq u q n s
  | .rRor u m n => Sys2Proof.Machine.execRRor u m n s
  | .rRorq u q n => Sys2Proof.Machine.execRRorq u q n s
  | .rCmp u m n => Sys2Proof.Machine.execRCmp u m n s
  | .rCmpq u q n => Sys2Proof.Machine.execRCmpq u q n s
  | .gSat8 n => Sys2Proof.Machine.execGSat8 n s
  | .dSubqmod q n => Sys2Proof.Machine.execDSubqmod q n s
  | .gSat16 n => Sys2Proof.Machine.execGSat16 n s
  | .dSat16s n => Sys2Proof.Machine.execDSat16s n s
  | .rMove u m n => Sys2Proof.Machine.execRMove u m n s
  | .rMoveq u q n => Sys2Proof.Machine.execRMoveq u q n s
  | .rMoveta u m n => Sys2Proof.Machine.execRMoveta u m n s
  | .rMovefa u m n => Sys2Proof.Machine.execRMovefa u m n s
  | .rMovei u n => Sys2Proof.Machine.execRMovei u n s
  | .rLoadb u m n => Sys2Proof.Machine.execRLoadb u m n s
  | .rLoadw u m n => Sys2Proof.Machine.execRLoadw u m n s
  | .rLoad u m n => Sys2Proof.Machine.execRLoad u m n s
  | .gLoadp m n => Sys2Proof.Machine.execGLoadp m n s
  | .dSat32s n => Sys2Proof.Machine.execDSat32s n s
  | .rLoadR14q u q n => Sys2Proof.Machine.execRLoadR14q u q n s
  | .rLoadR15q u q n => Sys2Proof.Machine.execRLoadR15q u q n s
  | .rStoreb u m n => Sys2Proof.Machine.execRStoreb u m n s
  | .rStorew u m n => Sys2Proof.Machine.execRStorew u m n s
  | .rStore u m n => Sys2Proof.Machine.execRStore u m n s
  | .gStorep m n => Sys2Proof.Machine.execGStorep m n s
  | .dMirror n => Sys2Proof.Machine.execDMirror n s
  | .rStoreR14q u q n => Sys2Proof.Machine.execRStoreR14q u q n s
  | .rStoreR15q u q n => Sys2Proof.Machine.execRStoreR15q u q n s
  | .rMovePc u n => Sys2Proof.Machine.execRMovePc u n s
  | .rJump u m c => Sys2Proof.Machine.execRJump u m c s
  | .rJr u q c => Sys2Proof.Machine.execRJr u q c s
  | .rMmult u m n => Sys2Proof.Machine.execRMmult u m n s
  | .rMtoi u m n => Sys2Proof.Machine.execRMtoi u m n s
  | .rNormi u m n => Sys2Proof.Machine.execRNormi u m n s
  | .rNop u => Sys2Proof.Machine.execRNop u s
  | .rLoadR14m u m n => Sys2Proof.Machine.execRLoadR14m u m n s
  | .rLoadR15m u m n => Sys2Proof.Machine.execRLoadR15m u m n s
  | .rStoreR14m u m n => Sys2Proof.Machine.execRStoreR14m u m n s
  | .rStoreR15m u m n => Sys2Proof.Machine.execRStoreR15m u m n s
  | .gSat24 n => Sys2Proof.Machine.execGSat24 n s
  | .dReserved62 => Sys2Proof.Machine.execDReserved62 s
  | .gPack n => Sys2Proof.Machine.execGPack n s
  | .gUnpack n => Sys2Proof.Machine.execGUnpack n s
  | .dAddqmod q n => Sys2Proof.Machine.execDAddqmod q n s

end Sys2Proof.Machine
end

