-- ==== Sys2Proof/Machine/Processor.lean ====
section
/-! DEFINITION. One step of a processor: the CPU's (R650), a RISC unit's (R651), idle steps (R652). -/
namespace Sys2Proof.Machine

/-! ### Scheduler fields by role (R56) -/

/-- `t[p]` (R56). -/
def State.time (s : State) : Role → Nat
  | .cpu => s.sched.tCpu
  | .risc .gpu => s.sched.tGpu
  | .risc .dsp => s.sched.tDsp

/-- `t[p] <- v` (R56). -/
def State.setTime (s : State) (p : Role) (v : Nat) : State :=
  match p with
  | .cpu => { s with sched := { s.sched with tCpu := v } }
  | .risc .gpu => { s with sched := { s.sched with tGpu := v } }
  | .risc .dsp => { s with sched := { s.sched with tDsp := v } }

/-- `DIV(p)` (R9). -/
def Params.div (m : Params) : Role → Nat
  | .cpu => m.divCpu
  | .risc .gpu => m.divGpu
  | .risc .dsp => m.divDsp

/-- `IDLE_COST(p)` (R9). -/
def Params.idle (m : Params) : Role → Nat
  | .cpu => m.idleCpu
  | .risc .gpu => m.idleGpu
  | .risc .dsp => m.idleDsp

/-! ### Begin and end of a step -/

/-- `c <- 0`, nothing fetched yet (R650, R651). -/
def beginStep (s : State) : State := { s with fetched := [], stepCycles := 0 }

/-- The step consumed `c` own-clock cycles: the cycle counter grows by `c` and `t[p]` by `c * DIV(p)` (R650, R651,
R655). The scratch fields are cleared (log 19). -/
def endStep (p : Role) (s : State) : State :=
  let c := s.stepCycles
  let s := s.addCycles p c
  let s := s.setTime p (s.time p + c * s.params.div p)
  { s with fetched := [], stepCycles := 0 }

/-- The `endStep` of a meaning's outcome, after what else the step does. -/
def finish (p : Role) (k : State → State) : Result → Result
  | .next s => .next (endStep p (k s))
  | .fault r => .fault r
  | .refused r => .refused r

/-! ### The CPU -/

/-- The privileged instructions (R640). -/
def isPrivileged : Instr → Bool
  | .rte => true
  | .moveEaSr _ => true
  | .oriToSr => true
  | .andiToSr => true
  | .eoriToSr => true
  | .moveAnUsp _ => true
  | .moveUspAn _ => true
  | .reset => true
  | .stop => true
  | _ => false

/-- The instruction is abandoned at decode: line A, line F, or privileged in user mode (R616, R618). `ILLEGAL` has a
row of its own and is not (log 13). -/
def abandoned (i : Instr) (s : State) : Bool :=
  match i with
  | .lineA _ => true
  | .lineF _ => true
  | i => isPrivileged i && !s.cpu.sr.s

/-- The trace exception, when it is due (R618). -/
def traceIf (due : Bool) (s : State) : State := if due then takeException (.vector 9) s.cpu.pc s else s

/-- What ends a CPU step after its instruction: the instruction's cost, the trace, the interrupt check (R650). -/
def cpuTail (traced : Bool) (s : State) : State := cpuInterruptCheck (traceIf traced (s.chargeFetched .cpu))

/-- Fetch, decode and execute one CPU instruction, with what follows it in its step (R650). -/
def cpuInstruction (s : State) : Result :=
  let w := fetch16 .cpu s
  match decode .cpu w.1 with
  | .error _ => finish .cpu (cpuTail false) (.next (takeIllegal w.2))
  | .ok i => finish .cpu (cpuTail (s.cpu.sr.t && !abandoned i w.2)) (exec i w.2)

/-- `CpuStep()` (R650, R652). While the machine is Off the CPU is never stepped (R27, R655). -/
def cpuStep (s : State) : Result :=
  let s := beginStep s
  match s.cpu.run with
  | .running => cpuInstruction s
  | .stopped => .next (endStep .cpu (cpuInterruptCheck (s.addStepCycles (s.params.idle .cpu))))
  | .off => .refused .machineOff

/-! ### The units -/

/-- What ends a unit's step after its instruction: the instruction's cost and the interrupt check (R651). -/
def riscTail (u : Coproc) (s : State) : State := riscInterruptCheck u (s.chargeFetched (.risc u))

/-- Fetch, decode and execute one instruction of a unit, with what follows it in its step (R651). Every word decodes on
a unit (R206), so the `error` arm is never reached. -/
def riscInstruction (u : Coproc) (s : State) : Result :=
  let w := fetch16 (.risc u) s
  match decode (.risc u) w.1 with
  | .error _ => finish (.risc u) (riscTail u) (.next w.2)
  | .ok i => finish (.risc u) (riscTail u) (exec i w.2)

/-- `RiscStep(u)` (R651, R652). -/
def riscStep (u : Coproc) (s : State) : Result :=
  let s := beginStep s
  if (s.risc u).go then riscInstruction u s
  else .next (endStep (.risc u) (riscInterruptCheck u (s.addStepCycles (s.params.idle (.risc u)))))

/-- One step of a processor. -/
def processorStep : Role → State → Result
  | .cpu, s => cpuStep s
  | .risc u, s => riscStep u s

end Sys2Proof.Machine
end

