-- ==== Sys2Proof/Machine/Scheduler.lean ====
section
/-! DEFINITION. The scheduler (R655, R656): who steps next, the line events and the frame event, one turn of its loop,
and the loop itself with the exits of runFrame and runCycles (R704, R707). -/
namespace Sys2Proof.Machine

/-- The processors in tie-break order (R655). -/
def roles : List Role := [.cpu, .risc .gpu, .risc .dsp]

/-- The processor is in the eligible set `E` (R655). -/
def eligible (s : State) : Role → Bool
  | .cpu => s.cpu.run != .off
  | .risc u => (s.risc u).en

/-- The least `t[p]` of the eligible ones of a list; none if there is none. -/
def leastTime (s : State) : List Role → Option Nat
  | [] => none
  | p :: rest =>
    match eligible s p, leastTime s rest with
    | true, some t => some (min (s.time p) t)
    | true, none => some (s.time p)
    | false, t => t

/-- `now`: the least `t[p]` over the eligible set, `FRAME_BUDGET` if it is empty (R655). -/
def now (s : State) : Nat := (leastTime s roles).getD s.params.frameBudget

/-- `LINE_TIME(k)` (R656). -/
def lineTime (m : Params) (k : Nat) : Nat := k * m.frameBudget / m.lines

/-- `LineEvent(k)`: the VIDEO line when `k` is VI, then the devices' tick (R656). -/
def lineEvent (k : Nat) (s : State) : State :=
  extCall (.tick (.line k)) (if k = s.vi.toNat then raiseLine .cpu 0 s else s)

/-- The line events that are due at a time, in order (R655). The first argument bounds them: no more than the lines
left. -/
def fireDue : Nat → Nat → State → State
  | 0, _, s => s
  | left + 1, t, s =>
    if s.sched.line < s.params.lines ∧ lineTime s.params (s.sched.line + 1) ≤ t then
      fireDue left t
        (lineEvent (s.sched.line + 1) { s with sched := { s.sched with line := s.sched.line + 1 } })
    else s

/-- The first of CPU, GPU, DSP that is eligible and has `t[p] = now` (R655). -/
def nextRole (s : State) : Option Role := roles.find? fun p => eligible s p && s.time p == now s

/-- The overshoot of a processor carried into the next frame (R655). -/
def carryTime (s : State) (p : Role) : Nat := if eligible s p then s.time p - s.params.frameBudget else 0

/-- The end of a frame: the frame event's tick, the carried times, the frame clock (R655, R656). -/
def endFrame (s : State) : State :=
  let s := extCall (.tick .frame) s
  { s with
    sched :=
      { s.sched with
        tCpu := carryTime s .cpu, tGpu := carryTime s (.risc .gpu), tDsp := carryTime s (.risc .dsp),
        line := 0, frameClock := s.sched.frameClock + s.params.frameBudget } }

/-- How a turn of the scheduler's loop ended. -/
inductive Signal where
  /-- A processor stepped. -/
  | ran
  /-- A stop was requested (R706). -/
  | paused
  /-- The frame is complete (R656). -/
  | frameReady
deriving DecidableEq, Repr

/-- The further exit of `runCycles` is reached: `now` has come to its limit (R707). -/
def limitReached (limit : Option Nat) (t : Nat) : Bool :=
  match limit with
  | none => false
  | some l => decide (l ≤ t)

/-- What follows the line events of a turn: the end of the frame, a pause, or one processor step (R655). The exit of
`runCycles` is tested after the stop request (R707, log 16). -/
def decideTurn (limit : Option Nat) (t : Nat) (s : State) : Signal × Result :=
  if s.params.frameBudget ≤ t then (.frameReady, .next (endFrame s))
  else if s.sched.stopRequested then
    (.paused, .next { s with sched := { s.sched with stopRequested := false } })
  else if limitReached limit t then (.paused, .next s)
  else
    match nextRole s with
    | some p => (.ran, processorStep p s)
    | none => (.ran, .next s)

/-- One turn of the loop of R655. While the machine is Off there is none (R705). -/
def turn (limit : Option Nat) (s : State) : Signal × Result :=
  if s.cpu.run = .off then (.ran, .refused .machineOff)
  else decideTurn limit (now s) (fireDue (s.params.lines - s.sched.line) (now s) s)

/-- The loop of R655 with at most `fuel` turns. It answers `.ran` only when it stops short: a refusal, or no fuel. -/
def runLoop (limit : Option Nat) : Nat → State → Signal × Result
  | 0, s => (.ran, .next s)
  | fuel + 1, s =>
    match turn limit s with
    | (.ran, .next t) => runLoop limit fuel t
    | r => r

/-- Turns that suffice for a frame when every parameter meets R9: each step moves some `t[p]` that is below the budget
by at least 1 (log 15). -/
def frameFuel (s : State) : Nat := 3 * s.params.frameBudget + 1

/-! ### Placing an instruction for the next step (log 3) -/

/-- Store bytes at a bus address and up, wrapping at the top of the bus (R101). -/
def storeBytes : List Byte → Nat → Memory → Memory
  | [], _, m => m
  | b :: rest, a, m => storeBytes rest (a + 1) (m.write (a % 0x1000000) b)

/-- The words of an instruction stored where the CPU fetches next. -/
def storeInstruction (nbits w : Nat) (s : State) : State :=
  s.setMem (storeBytes (tableBytes nbits w) (alignedAddr .w s.cpu.pc) s.mem)

/-- The CPU made the processor that steps next: running, with the least time, and no stop requested. -/
def makeCpuNext (s : State) : State :=
  { s.setRun .running with sched := { s.sched with tCpu := 0, stopRequested := false } }

end Sys2Proof.Machine
end

