-- ==== Sys2Proof/Machine/Step.lean ====
section
/-! DEFINITION. The step of the machine, and the state whose next step runs a given instruction. -/
namespace Sys2Proof.Machine

/-- One step: one turn of the scheduler's loop (R655), that is the line events that are due and then the end of the
frame, a pause, or one step of the processor that is furthest behind (log 10). Refused while the machine is Off. -/
def step (s : State) : Host.Outcome State Fault Refusal := (turn none s).2

/-- `s` with the instruction stored at the CPU's `pc` and the CPU next to step (log 3). -/
def State.withFetchWord (s : State) (nbits w : Nat) : State := makeCpuNext (storeInstruction nbits w s)

end Sys2Proof.Machine
end

