-- ==== Sys2Proof/Machine/Disassembler.lean ====
section
/-! DEFINITION. The text of an instruction in the syntax of R220 and R221, for the host's `disassembleAt` (R710). What
those rules leave open is the model's choice: how numbers and branch targets are written, and the text of what they name
no mnemonic or condition for (log 21). `ws` are the words after the operation word. -/
namespace Sys2Proof.Machine

/-- A number in hexadecimal (R220). -/
def hexText (n : Nat) : String := "$" ++ (String.ofList (Nat.toDigits 16 n)).toUpper

/-- An extension word; 0 if there is none. -/
def wordAt (k : Nat) (ws : List Half) : Half := ws.getD k 0

/-- A data register. -/
def dText (r : Fin 8) : String := "D" ++ toString r.val

/-- An address register. -/
def aText (r : Fin 8) : String := "A" ++ toString r.val

/-- A register of a unit. -/
def rText (r : Fin 32) : String := "r" ++ toString r.val

/-- A size suffix (R220). -/
def sizeText : Size → String
  | .b => ".B"
  | .w => ".W"
  | .l => ".L"

/-- A condition name (R182). -/
def condText : Cond → String
  | .t => "T"
  | .f => "F"
  | .hi => "HI"
  | .ls => "LS"
  | .cc => "CC"
  | .cs => "CS"
  | .ne => "NE"
  | .eq => "EQ"
  | .vc => "VC"
  | .vs => "VS"
  | .pl => "PL"
  | .mi => "MI"
  | .ge => "GE"
  | .lt => "LT"
  | .gt => "GT"
  | .le => "LE"

/-- A target relative to the instruction's own address. -/
def relText (d : Int) : String := if d < 0 then "*-" ++ toString d.natAbs else "*+" ++ toString d.natAbs

/-- The index register of a brief extension word (R173). -/
def indexText (x : Half) : String :=
  let k : Fin 8 := (x.extractLsb' 12 3).toFin
  (if x.getLsbD 15 then aText k else dText k) ++ (if x.getLsbD 11 then ".L" else ".W")

/-- The displacement of a brief extension word (R173). -/
def disp8Text (x : Half) : String := toString (x.setWidth 8).toInt

/-- An immediate of a size (R174). -/
def immValue (sz : Size) (ws : List Half) : Nat :=
  match sz with
  | .b => (wordAt 0 ws).toNat % 256
  | .w => (wordAt 0 ws).toNat
  | .l => (wordAt 0 ws).toNat * 65536 + (wordAt 1 ws).toNat

/-- An operand in the syntax of R172, its own extension words first in `ws`. -/
def eaText (sz : Size) (ea : EA) (ws : List Half) : String :=
  match ea with
  | .dn r => dText r
  | .an r => aText r
  | .ind r => "(" ++ aText r ++ ")"
  | .postinc r => "(" ++ aText r ++ ")+"
  | .predec r => "-(" ++ aText r ++ ")"
  | .disp r => toString (wordAt 0 ws).toInt ++ "(" ++ aText r ++ ")"
  | .index r => disp8Text (wordAt 0 ws) ++ "(" ++ aText r ++ "," ++ indexText (wordAt 0 ws) ++ ")"
  | .absW => hexText (wordAt 0 ws).toNat ++ ".W"
  | .absL => hexText (immValue .l ws) ++ ".L"
  | .pcDisp => toString (wordAt 0 ws).toInt ++ "(PC)"
  | .pcIndex => disp8Text (wordAt 0 ws) ++ "(PC," ++ indexText (wordAt 0 ws) ++ ")"
  | .imm => "#" ++ hexText (immValue sz ws)

/-- `NAME #imm,destination`. -/
def immText (sz : Size) (name dst : String) (ws : List Half) : String :=
  name ++ " #" ++ hexText (immValue sz ws) ++ "," ++ dst

/-- MOVE: the source's words come first (R177). -/
def moveText (sz : Size) (dst src : EA) (ws : List Half) : String :=
  "MOVE" ++ sizeText sz ++ " " ++ eaText sz src ws ++ "," ++ eaText sz dst (ws.drop (src.extWords sz))

/-- MOVEP, both directions (R245). -/
def movepText (r : Fin 8) (dir : MovepDir) (sz : LongSize) (a : Fin 8) (d : Int) : String :=
  let m := toString d ++ "(" ++ aText a ++ ")"
  "MOVEP" ++ sizeText sz.toSize ++ " " ++
    match dir with
    | .regToMem => dText r ++ "," ++ m
    | .memToReg => m ++ "," ++ dText r

/-- A branch: the short form with the displacement byte, the word form with the extension word (R340). -/
def branchText (name : String) (disp : Byte) (ws : List Half) : String :=
  if disp = 0 then name ++ ".W " ++ relText (2 + (wordAt 0 ws).toInt) else name ++ ".S " ++ relText (2 + disp.toInt)

/-- The operands of ADDX, SUBX, ABCD and SBCD (R265). -/
def xText (x : Fin 8) (mode : XMode) (y : Fin 8) : String :=
  match mode with
  | .regs => dText y ++ "," ++ dText x
  | .predec => "-(" ++ aText y ++ "),-(" ++ aText x ++ ")"

/-- The count operand of a register shift (R310). -/
def countText : ShiftCount → String
  | .imm q => "#" ++ toString (quickValue q)
  | .reg r => dText r

/-- The mask of a MOVEM store in the order D0 to D7, A0 to A7: predecrement has it reversed (R179). -/
def storeMask (ea : EA) (mask : Half) : Half :=
  match ea with
  | .predec _ => mask.reverse
  | _ => mask

/-- A run of registers of one kind in a MOVEM list (R220). -/
def runText (kind : String) (first last : Nat) : String :=
  if first = last then kind ++ toString first
  else kind ++ toString first ++ "-" ++ kind ++ toString last

/-- The runs of set bits of one half of a MOVEM mask: `k` is the register of the next bit, `first` where an open run
began. -/
def runs (kind : String) : Nat → Option Nat → List Bool → List String
  | _, none, [] => []
  | k, some a, [] => [runText kind a (k - 1)]
  | k, none, true :: rest => runs kind (k + 1) (some k) rest
  | k, none, false :: rest => runs kind (k + 1) none rest
  | k, some a, true :: rest => runs kind (k + 1) (some a) rest
  | k, some a, false :: rest => runText kind a (k - 1) :: runs kind (k + 1) none rest

/-- A register list of MOVEM, such as D0-D3/A0/A6 (R220). DESIGN CHOICE (log 21): R220 gives no syntax for an empty list;
a mask of 0 is written as an empty operand, as in `MOVEM.L ,(A0)`. -/
def maskText (mask : Half) : String :=
  let bits (lo : Nat) : List Bool := (List.range 8).map fun i => mask.getLsbD (lo + i)
  "/".intercalate (runs "D" 0 none (bits 0) ++ runs "A" 0 none (bits 8))

/-- A condition of JUMP and JR by the names of R221, the first where it gives two. DESIGN CHOICE (log 21): a code that
R221 gives no name is written as a number. -/
def riscCondText (c : BitVec 5) : String :=
  match c.toNat with
  | 0 => "t"
  | 1 => "ne"
  | 2 => "eq"
  | 4 => "cc"
  | 5 => "nc_nz"
  | 6 => "nc_z"
  | 8 => "cs"
  | 9 => "c_nz"
  | 10 => "c_z"
  | 20 => "pl"
  | 21 => "nn_nz"
  | 22 => "nn_z"
  | 24 => "mi"
  | 25 => "n_nz"
  | 26 => "n_z"
  | k => hexText k

/-- JUMP and JR. -/
def jumpText (name : String) (c : BitVec 5) (target : String) : String := name ++ " " ++ riscCondText c ++ "," ++ target

/-- The text of an instruction (R220, R221). DESIGN CHOICE (log 21): R220 and R221 name no mnemonic for the words of line
A, of line F and of DSP opcode 62. The model writes the first two as `DC.W $Axxx` and `DC.W $Fxxx` and the last as
`reserved`. -/
def instrText (i : Instr) (ws : List Half) : String :=
  match i with
  | .oriToCcr => immText .w "ORI" "CCR" ws
  | .oriToSr => immText .w "ORI" "SR" ws
  | .andiToCcr => immText .w "ANDI" "CCR" ws
  | .andiToSr => immText .w "ANDI" "SR" ws
  | .eoriToCcr => immText .w "EORI" "CCR" ws
  | .eoriToSr => immText .w "EORI" "SR" ws
  | .ori sz ea => immText sz ("ORI" ++ sizeText sz) (eaText sz ea (ws.drop sz.immWords)) ws
  | .andi sz ea => immText sz ("ANDI" ++ sizeText sz) (eaText sz ea (ws.drop sz.immWords)) ws
  | .subi sz ea => immText sz ("SUBI" ++ sizeText sz) (eaText sz ea (ws.drop sz.immWords)) ws
  | .addi sz ea => immText sz ("ADDI" ++ sizeText sz) (eaText sz ea (ws.drop sz.immWords)) ws
  | .eori sz ea => immText sz ("EORI" ++ sizeText sz) (eaText sz ea (ws.drop sz.immWords)) ws
  | .cmpi sz ea => immText sz ("CMPI" ++ sizeText sz) (eaText sz ea (ws.drop sz.immWords)) ws
  | .btstImm ea => "BTST #" ++ toString ((wordAt 0 ws).toNat % 256) ++ "," ++ eaText .b ea (ws.drop 1)
  | .bchgImm ea => "BCHG #" ++ toString ((wordAt 0 ws).toNat % 256) ++ "," ++ eaText .b ea (ws.drop 1)
  | .bclrImm ea => "BCLR #" ++ toString ((wordAt 0 ws).toNat % 256) ++ "," ++ eaText .b ea (ws.drop 1)
  | .bsetImm ea => "BSET #" ++ toString ((wordAt 0 ws).toNat % 256) ++ "," ++ eaText .b ea (ws.drop 1)
  | .movep r dir sz a => movepText r dir sz a (wordAt 0 ws).toInt
  | .btstReg r ea => "BTST " ++ dText r ++ "," ++ eaText .b ea ws
  | .bchgReg r ea => "BCHG " ++ dText r ++ "," ++ eaText .b ea ws
  | .bclrReg r ea => "BCLR " ++ dText r ++ "," ++ eaText .b ea ws
  | .bsetReg r ea => "BSET " ++ dText r ++ "," ++ eaText .b ea ws
  | .moveaL r ea => "MOVEA" ++ sizeText .l ++ " " ++ eaText .l ea ws ++ "," ++ aText r
  | .moveaW r ea => "MOVEA" ++ sizeText .w ++ " " ++ eaText .w ea ws ++ "," ++ aText r
  | .moveB dst src => moveText .b dst src ws
  | .moveL dst src => moveText .l dst src ws
  | .moveW dst src => moveText .w dst src ws
  | .illegal => "ILLEGAL"
  | .reset => "RESET"
  | .nop => "NOP"
  | .stop => "STOP #" ++ hexText (wordAt 0 ws).toNat
  | .rte => "RTE"
  | .rts => "RTS"
  | .trapv => "TRAPV"
  | .rtr => "RTR"
  | .trap v => "TRAP #" ++ toString v.toNat
  | .link r => "LINK " ++ aText r ++ ",#" ++ toString (wordAt 0 ws).toInt
  | .unlk r => "UNLK " ++ aText r
  | .moveAnUsp r => "MOVE " ++ aText r ++ ",USP"
  | .moveUspAn r => "MOVE USP," ++ aText r
  | .jsr ea => "JSR " ++ eaText .l ea ws
  | .jmp ea => "JMP " ++ eaText .l ea ws
  | .swap r => "SWAP " ++ dText r
  | .pea ea => "PEA " ++ eaText .l ea ws
  | .extW r => "EXT.W " ++ dText r
  | .extL r => "EXT.L " ++ dText r
  | .movemRegsEa sz ea => "MOVEM" ++ sizeText sz.toSize ++ " " ++ maskText (storeMask ea (wordAt 0 ws)) ++ "," ++ eaText .l ea (ws.drop 1)
  | .movemEaRegs sz ea => "MOVEM" ++ sizeText sz.toSize ++ " " ++ eaText .l ea (ws.drop 1) ++ "," ++ maskText (wordAt 0 ws)
  | .nbcd ea => "NBCD " ++ eaText .b ea ws
  | .tas ea => "TAS " ++ eaText .b ea ws
  | .tst sz ea => "TST" ++ sizeText sz ++ " " ++ eaText sz ea ws
  | .moveSrEa ea => "MOVE SR," ++ eaText .w ea ws
  | .moveEaCcr ea => "MOVE " ++ eaText .w ea ws ++ ",CCR"
  | .moveEaSr ea => "MOVE " ++ eaText .w ea ws ++ ",SR"
  | .negx sz ea => "NEGX" ++ sizeText sz ++ " " ++ eaText sz ea ws
  | .clr sz ea => "CLR" ++ sizeText sz ++ " " ++ eaText sz ea ws
  | .neg sz ea => "NEG" ++ sizeText sz ++ " " ++ eaText sz ea ws
  | .notEa sz ea => "NOT" ++ sizeText sz ++ " " ++ eaText sz ea ws
  | .chk r ea => "CHK " ++ eaText .w ea ws ++ "," ++ dText r
  | .lea r ea => "LEA " ++ eaText .l ea ws ++ "," ++ aText r
  | .dbcc c r => "DB" ++ condText c ++ " " ++ dText r ++ "," ++ relText (2 + (wordAt 0 ws).toInt)
  | .scc c ea => "S" ++ condText c ++ " " ++ eaText .b ea ws
  | .addq q sz ea => "ADDQ" ++ sizeText sz ++ " #" ++ toString (quickValue q) ++ "," ++ eaText sz ea ws
  | .subq q sz ea => "SUBQ" ++ sizeText sz ++ " #" ++ toString (quickValue q) ++ "," ++ eaText sz ea ws
  | .bra disp => branchText "BRA" disp ws
  | .bsr disp => branchText "BSR" disp ws
  | .bcc c disp => branchText ("B" ++ condText c) disp ws
  | .moveq r data => "MOVEQ #" ++ toString data.toInt ++ "," ++ dText r
  | .divu r ea => "DIVU " ++ eaText .w ea ws ++ "," ++ dText r
  | .divs r ea => "DIVS " ++ eaText .w ea ws ++ "," ++ dText r
  | .sbcd x mode y => "SBCD " ++ xText x mode y
  | .orEaDn r sz ea => "OR" ++ sizeText sz ++ " " ++ eaText sz ea ws ++ "," ++ dText r
  | .orDnEa r sz ea => "OR" ++ sizeText sz ++ " " ++ dText r ++ "," ++ eaText sz ea ws
  | .subaW r ea => "SUBA" ++ sizeText .w ++ " " ++ eaText .w ea ws ++ "," ++ aText r
  | .subaL r ea => "SUBA" ++ sizeText .l ++ " " ++ eaText .l ea ws ++ "," ++ aText r
  | .subx x sz mode y => "SUBX" ++ sizeText sz ++ " " ++ xText x mode y
  | .subEaDn r sz ea => "SUB" ++ sizeText sz ++ " " ++ eaText sz ea ws ++ "," ++ dText r
  | .subDnEa r sz ea => "SUB" ++ sizeText sz ++ " " ++ dText r ++ "," ++ eaText sz ea ws
  | .lineA d => "DC.W " ++ hexText (0xA000 + d.toNat)
  | .cmpaW r ea => "CMPA" ++ sizeText .w ++ " " ++ eaText .w ea ws ++ "," ++ aText r
  | .cmpaL r ea => "CMPA" ++ sizeText .l ++ " " ++ eaText .l ea ws ++ "," ++ aText r
  | .cmpm x sz y => "CMPM" ++ sizeText sz ++ " (" ++ aText y ++ ")+,(" ++ aText x ++ ")+"
  | .cmp r sz ea => "CMP" ++ sizeText sz ++ " " ++ eaText sz ea ws ++ "," ++ dText r
  | .eor r sz ea => "EOR" ++ sizeText sz ++ " " ++ dText r ++ "," ++ eaText sz ea ws
  | .mulu r ea => "MULU " ++ eaText .w ea ws ++ "," ++ dText r
  | .muls r ea => "MULS " ++ eaText .w ea ws ++ "," ++ dText r
  | .abcd x mode y => "ABCD " ++ xText x mode y
  | .exgDD x y => "EXG " ++ dText x ++ "," ++ dText y
  | .exgAA x y => "EXG " ++ aText x ++ "," ++ aText y
  | .exgDA x y => "EXG " ++ dText x ++ "," ++ aText y
  | .andEaDn r sz ea => "AND" ++ sizeText sz ++ " " ++ eaText sz ea ws ++ "," ++ dText r
  | .andDnEa r sz ea => "AND" ++ sizeText sz ++ " " ++ dText r ++ "," ++ eaText sz ea ws
  | .addaW r ea => "ADDA" ++ sizeText .w ++ " " ++ eaText .w ea ws ++ "," ++ aText r
  | .addaL r ea => "ADDA" ++ sizeText .l ++ " " ++ eaText .l ea ws ++ "," ++ aText r
  | .addx x sz mode y => "ADDX" ++ sizeText sz ++ " " ++ xText x mode y
  | .addEaDn r sz ea => "ADD" ++ sizeText sz ++ " " ++ eaText sz ea ws ++ "," ++ dText r
  | .addDnEa r sz ea => "ADD" ++ sizeText sz ++ " " ++ dText r ++ "," ++ eaText sz ea ws
  | .asrEa ea => "ASR " ++ eaText .w ea ws
  | .aslEa ea => "ASL " ++ eaText .w ea ws
  | .lsrEa ea => "LSR " ++ eaText .w ea ws
  | .lslEa ea => "LSL " ++ eaText .w ea ws
  | .roxrEa ea => "ROXR " ++ eaText .w ea ws
  | .roxlEa ea => "ROXL " ++ eaText .w ea ws
  | .rorEa ea => "ROR " ++ eaText .w ea ws
  | .rolEa ea => "ROL " ++ eaText .w ea ws
  | .asrDn count sz r => "ASR" ++ sizeText sz ++ " " ++ countText count ++ "," ++ dText r
  | .aslDn count sz r => "ASL" ++ sizeText sz ++ " " ++ countText count ++ "," ++ dText r
  | .lsrDn count sz r => "LSR" ++ sizeText sz ++ " " ++ countText count ++ "," ++ dText r
  | .lslDn count sz r => "LSL" ++ sizeText sz ++ " " ++ countText count ++ "," ++ dText r
  | .roxrDn count sz r => "ROXR" ++ sizeText sz ++ " " ++ countText count ++ "," ++ dText r
  | .roxlDn count sz r => "ROXL" ++ sizeText sz ++ " " ++ countText count ++ "," ++ dText r
  | .rorDn count sz r => "ROR" ++ sizeText sz ++ " " ++ countText count ++ "," ++ dText r
  | .rolDn count sz r => "ROL" ++ sizeText sz ++ " " ++ countText count ++ "," ++ dText r
  | .lineF d => "DC.W " ++ hexText (0xF000 + d.toNat)
  | .rAdd _ m n => "add " ++ rText m ++ "," ++ rText n
  | .rAddc _ m n => "addc " ++ rText m ++ "," ++ rText n
  | .rAddq _ q n => "addq #" ++ toString (q32 q) ++ "," ++ rText n
  | .rAddqt _ q n => "addqt #" ++ toString (q32 q) ++ "," ++ rText n
  | .rSub _ m n => "sub " ++ rText m ++ "," ++ rText n
  | .rSubc _ m n => "subc " ++ rText m ++ "," ++ rText n
  | .rSubq _ q n => "subq #" ++ toString (q32 q) ++ "," ++ rText n
  | .rSubqt _ q n => "subqt #" ++ toString (q32 q) ++ "," ++ rText n
  | .rNeg _ n => "neg " ++ rText n
  | .rAnd _ m n => "and " ++ rText m ++ "," ++ rText n
  | .rOr _ m n => "or " ++ rText m ++ "," ++ rText n
  | .rXor _ m n => "xor " ++ rText m ++ "," ++ rText n
  | .rNot _ n => "not " ++ rText n
  | .rBtst _ q n => "btst #" ++ toString (u5 q) ++ "," ++ rText n
  | .rBset _ q n => "bset #" ++ toString (u5 q) ++ "," ++ rText n
  | .rBclr _ q n => "bclr #" ++ toString (u5 q) ++ "," ++ rText n
  | .rMult _ m n => "mult " ++ rText m ++ "," ++ rText n
  | .rImult _ m n => "imult " ++ rText m ++ "," ++ rText n
  | .rImultn _ m n => "imultn " ++ rText m ++ "," ++ rText n
  | .rResmac _ n => "resmac " ++ rText n
  | .rImacn _ m n => "imacn " ++ rText m ++ "," ++ rText n
  | .rDiv _ m n => "div " ++ rText m ++ "," ++ rText n
  | .rAbs _ n => "abs " ++ rText n
  | .rSh _ m n => "sh " ++ rText m ++ "," ++ rText n
  | .rShlq _ q n => "shlq #" ++ toString (shlCount q) ++ "," ++ rText n
  | .rShrq _ q n => "shrq #" ++ toString (q32 q) ++ "," ++ rText n
  | .rSha _ m n => "sha " ++ rText m ++ "," ++ rText n
  | .rSharq _ q n => "sharq #" ++ toString (q32 q) ++ "," ++ rText n
  | .rRor _ m n => "ror " ++ rText m ++ "," ++ rText n
  | .rRorq _ q n => "rorq #" ++ toString (q32 q) ++ "," ++ rText n
  | .rCmp _ m n => "cmp " ++ rText m ++ "," ++ rText n
  | .rCmpq _ q n => "cmpq #" ++ toString (q.toInt) ++ "," ++ rText n
  | .gSat8 n => "sat8 " ++ rText n
  | .dSubqmod q n => "subqmod #" ++ toString (q32 q) ++ "," ++ rText n
  | .gSat16 n => "sat16 " ++ rText n
  | .dSat16s n => "sat16s " ++ rText n
  | .rMove _ m n => "move " ++ rText m ++ "," ++ rText n
  | .rMoveq _ q n => "moveq #" ++ toString (u5 q) ++ "," ++ rText n
  | .rMoveta _ m n => "moveta " ++ rText m ++ "," ++ rText n
  | .rMovefa _ m n => "movefa " ++ rText m ++ "," ++ rText n
  | .rMovei _ n => "movei #" ++ hexText ((wordAt 1 ws).toNat * 65536 + (wordAt 0 ws).toNat) ++ "," ++ rText n
  | .rLoadb _ m n => "loadb (" ++ rText m ++ ")," ++ rText n
  | .rLoadw _ m n => "loadw (" ++ rText m ++ ")," ++ rText n
  | .rLoad _ m n => "load (" ++ rText m ++ ")," ++ rText n
  | .gLoadp m n => "loadp (" ++ rText m ++ ")," ++ rText n
  | .dSat32s n => "sat32s " ++ rText n
  | .rLoadR14q _ q n => "load (r14+" ++ toString (q32 q) ++ ")," ++ rText n
  | .rLoadR15q _ q n => "load (r15+" ++ toString (q32 q) ++ ")," ++ rText n
  | .rStoreb _ m n => "storeb " ++ rText n ++ ",(" ++ rText m ++ ")"
  | .rStorew _ m n => "storew " ++ rText n ++ ",(" ++ rText m ++ ")"
  | .rStore _ m n => "store " ++ rText n ++ ",(" ++ rText m ++ ")"
  | .gStorep m n => "storep " ++ rText n ++ ",(" ++ rText m ++ ")"
  | .dMirror n => "mirror " ++ rText n
  | .rStoreR14q _ q n => "store " ++ rText n ++ ",(r14+" ++ toString (q32 q) ++ ")"
  | .rStoreR15q _ q n => "store " ++ rText n ++ ",(r15+" ++ toString (q32 q) ++ ")"
  | .rMovePc _ n => "move pc," ++ rText n
  | .rJump _ m c => jumpText "jump" c ("(" ++ rText m ++ ")")
  | .rJr _ q c => jumpText "jr" c (relText (2 + 2 * q.toInt))
  | .rMmult _ m n => "mmult " ++ rText m ++ "," ++ rText n
  | .rMtoi _ m n => "mtoi " ++ rText m ++ "," ++ rText n
  | .rNormi _ m n => "normi " ++ rText m ++ "," ++ rText n
  | .rNop _ => "nop"
  | .rLoadR14m _ m n => "load (r14+" ++ rText m ++ ")," ++ rText n
  | .rLoadR15m _ m n => "load (r15+" ++ rText m ++ ")," ++ rText n
  | .rStoreR14m _ m n => "store " ++ rText n ++ ",(r14+" ++ rText m ++ ")"
  | .rStoreR15m _ m n => "store " ++ rText n ++ ",(r15+" ++ rText m ++ ")"
  | .gSat24 n => "sat24 " ++ rText n
  | .dReserved62 => "reserved"
  | .gPack n => "pack " ++ rText n
  | .gUnpack n => "unpack " ++ rText n
  | .dAddqmod q n => "addqmod #" ++ toString (q32 q) ++ "," ++ rText n

end Sys2Proof.Machine
end

