-- ==== Sys2Proof/Machine/HostCalls.lean ====
section
/-! DEFINITION. The host interface (70_reset_and_hazards.md): life cycle, execution, load and inspection calls. A call
that VJRX's contract does not allow answers an error and leaves the state (R699, R712). -/
namespace Sys2Proof.Machine

/-- The errors of host calls (R712). -/
inductive HostError where
  /-- Registration of overlapping regions, or an image for a device region (R111, R700). -/
  | configurationError
  /-- The image is larger than its region (R700). -/
  | imageTooLarge
  /-- The call is outside the legal order (R699, F2). -/
  | illegalOrder
  /-- An inspection call has no data (R710). -/
  | noData
  /-- The run ended in a step that is refused (R493, F1). -/
  | stepRefused (r : Refusal)
deriving DecidableEq, Repr

/-! ### Construction, reset, power -/

/-- The coprocessor and line part of R702, ExtDevice returned to its initial state, the scheduler zeroed; the CPU part
is `resetSequence`. Memory and `en` stay. -/
def resetUnits (s : State) : State :=
  { s with
    gpu := State.resetGpu s.gpu.core.en,
    dsp := State.resetDsp s.dsp.core.en,
    cpuLines := Vector.replicate 5 State.resetLine,
    vi := 0x7FF,
    ext := s.params.device.initial,
    sched := State.resetSched,
    fetched := [],
    stepCycles := 0 }

/-- The CPU reset sequence (R703): both longs are read through the bus as CPU accesses. -/
def resetSequence (s : State) : State :=
  let s := { s with cpu := State.resetCpu 0 0 }
  let ssp := readLong .cpu 0x000000 s
  let pc := readLong .cpu 0x000004 ssp.2
  { pc.2 with cpu := State.resetCpu ssp.1 (evenAddr pc.1) }

/-- What `reset()` does (R702). -/
def resetMachine (s : State) : State := resetSequence (resetUnits s)

/-- A machine just constructed with its region table, parameters and memory (R699): off, every other field at its reset
value, SSP and `pc` 0. -/
def construct (table : List Region) (params : Params) (initMem : Memory) : Except HostError State :=
  if registrationOk table then
    .ok
      { cpu := { State.resetCpu 0 0 with run := .off },
        gpu := State.resetGpu true,
        dsp := State.resetDsp true,
        cpuLines := Vector.replicate 5 State.resetLine,
        vi := 0x7FF,
        mem := initMem,
        ext := params.device.initial,
        sched := State.resetSched,
        params := params,
        powered := false,
        fetched := [],
        stepCycles := 0 }
  else .error .configurationError

/-- `loadImage(bytes, targetRegion)` (R700), while the machine is off, after `powerOff()` too (log 18). The capability
tag is ignored. -/
def loadImage (image : List Byte) (target : RegionName) (s : State) : Except HostError State :=
  if s.cpu.run ≠ .off then .error .illegalOrder
  else
    match (region target).backing with
    | .bytes =>
      if (region target).stop - (region target).start < image.length then .error .imageTooLarge
      else .ok (s.setMem (s.mem.writeList (region target).start image))
    | _ => .error .configurationError

/-- `powerOn()` (R701). -/
def powerOn (s : State) : Except HostError State :=
  if s.cpu.run = .off then .ok { resetMachine { s with sched := State.resetSched } with powered := true }
  else .error .illegalOrder

/-- `reset()` (R702). -/
def hostReset (s : State) : Except HostError State :=
  if s.cpu.run = .off then .error .illegalOrder else .ok (resetMachine s)

/-- `powerOff()` (R705). -/
def powerOff (s : State) : Except HostError State :=
  if s.cpu.run = .off then .error .illegalOrder else .ok (s.setRun .off)

/-- `requestStop()` (R706). While the machine is off there is nothing to stop: refused (R699, log 18). -/
def requestStop (s : State) : Except HostError State :=
  if s.cpu.run = .off then .error .illegalOrder
  else .ok { s with sched := { s.sched with stopRequested := true } }

/-- What `setCoprocessorEnabled(u, b)` does: a unit that is enabled joins at the present time (R709). With nobody
eligible the present time is 0 (log 17). -/
def enableUnit (u : Coproc) (b : Bool) (s : State) : State :=
  let s := if b && !(s.risc u).en then s.setTime (.risc u) ((leastTime s roles).getD 0) else s
  s.setRisc u { s.risc u with en := b }

/-- `setCoprocessorEnabled(u, b)` (R709): legal before the first `powerOn()` and while the machine is on, not after
`powerOff()` (R699). -/
def setCoprocessorEnabled (u : Coproc) (b : Bool) (s : State) : Except HostError State :=
  if s.cpu.run = .off ∧ s.powered = true then .error .illegalOrder else .ok (enableUnit u b s)

/-! ### Running -/

/-- What a run call returns (R704, R706, R707). -/
inductive RunResult where
  | frameReady (s : State)
  | paused (s : State)
  | error (e : HostError)
  /-- The parameters break R9, so that time stands still (log 15). -/
  | noProgress (s : State)

/-- The answer of a run of the loop. -/
def runAnswer : Signal × Result → RunResult
  | (.frameReady, .next s) => .frameReady s
  | (.paused, .next s) => .paused s
  | (.ran, .next s) => .noProgress s
  | (_, .refused .machineOff) => .error .illegalOrder
  | (_, .refused r) => .error (.stepRefused r)

/-- `runFrame()` (R704). -/
def runFrame (s : State) : RunResult := runAnswer (runLoop none (frameFuel s) s)

/-- `runCycles(n)` (R707). -/
def runCycles (n : Nat) (s : State) : RunResult := runAnswer (runLoop (some (now s + n)) (frameFuel s) s)

/-! ### Inspection (R710) -/

/-- `readRegister(role, index)` (R710): a natural number, since the cycle counters are unbounded. -/
def readRegister (p : Role) (index : Nat) (s : State) : Except HostError Nat :=
  match p with
  | .cpu =>
    if h : index < 8 then .ok (s.dreg ⟨index, h⟩).toNat
    else if h : index < 16 then .ok (s.areg ⟨index - 8, by omega⟩).toNat
    else if index = 16 then .ok s.cpu.pc.toNat
    else if index = 17 then .ok s.cpu.sr.toHalf.toNat
    else if index = 18 then .ok s.cpu.usp.toNat
    else if index = 19 then .ok s.cpu.ssp.toNat
    else if index = 1000 then .ok s.cpu.cycles
    else .error .noData
  | .risc u =>
    if h : index < 32 then .ok ((s.risc u).bank0[index]).toNat
    else if h : index < 64 then .ok ((s.risc u).bank1[index - 32]).toNat
    else if index = 64 then .ok (s.risc u).pc.toNat
    else if index = 65 then .ok (flagsValue u s).toNat
    else if index = 1000 then .ok (s.risc u).cycles
    else .error .noData

/-- The byte of a device unit as `readMemory` shows it: of the value a read would return, for a register of R120 to
R122; the fill byte for an ExtDevice unit (R710). No handler runs. -/
def inspectDevice (b : Backing) (a : Nat) (s : State) : Byte :=
  match devRegAt b (a - a % b.unit) with
  | .ext _ _ => Config.fill
  | r => (regValue r s >>> unitShift b.unit .b a).setWidth 8

/-- The byte at an address as `readMemory` shows it (R710). -/
def inspectByte (a : Nat) (s : State) : Byte :=
  match regionAt a with
  | none => Config.fill
  | some g =>
    match g.backing with
    | .bytes => s.mem.read a
    | b => inspectDevice b a s

/-- `readMemory(address, length)` (R710). -/
def readMemory (a len : Nat) (s : State) : Except HostError (List Byte) :=
  if 0x1000000 < a + len then .error .noData
  else .ok ((List.range len).map fun k => inspectByte (a + k) s)

/-- What `disassembleAt` returns (R710): the row with its field values, all the words, the text. The length in words is
that of `words`. -/
structure Disassembly where
  instr : Instr
  words : List Half
  text : String
deriving DecidableEq, Repr

/-- The word at an address as `readMemory` shows it. -/
def inspectWord (a : Nat) (s : State) : Half := inspectByte a s ++ inspectByte (a + 1) s

/-- `disassembleAt(role, address)` (R710). A CPU word that selects no row has no row to return: no data (log 21). -/
def disassembleAt (p : Role) (addr : Nat) (s : State) : Except HostError Disassembly :=
  let a := addr % 0x1000000 - addr % 2
  match decode p (inspectWord a s) with
  | .error _ => .error .noData
  | .ok i =>
    if 0x1000000 < a + 2 * (1 + i.extWords) then .error .noData
    else
      let ws := (List.range i.extWords).map fun k => inspectWord (a + 2 * (1 + k)) s
      .ok { instr := i, words := inspectWord a s :: ws, text := instrText i ws }

/-! ### Snapshots (R711) -/

/-- `snapshot()` (R711): the whole state. -/
def snapshot (s : State) : Except HostError State := if s.cpu.run = .off then .error .illegalOrder else .ok s

/-- `restore(s)` (R711): the parameters and the life cycle (`powered`) are not part of a snapshot, so the machine keeps
its own (log 23). -/
def restore (saved s : State) : Except HostError State :=
  if s.cpu.run = .off then .error .illegalOrder else 
    .ok { saved with params := s.params, powered := s.powered }

end Sys2Proof.Machine
end

