-- ==== Sys2Proof/Safety.lean ====
section
/-! DEFINITION. What the claims are stated in: the invariant of the machine, the frames (what an instruction leaves as it
was), and which bytes an access stores to. -/
namespace Sys2Proof.Machine

/-! ### The invariant -/

/-- Every listed byte of memory belongs to a byte-array region (R107, R110). -/
def Memory.inRegions (m : Memory) : Bool := m.all fun c => inByteArray c.1

/-- The invariant between two steps: memory and the devices' storage in canonical form, memory nowhere but in byte-array
regions, every program counter even (R23, R32), no more line events than lines (R56), and no instruction in progress
(log 19). -/
structure Inv (s : State) : Prop where
  memCanonical : s.mem.wf = true
  memInRegions : s.mem.inRegions = true
  unitsCanonical : s.ext.units.wf = true
  cpuPcEven : s.cpu.pc.getLsbD 0 = false
  gpuPcEven : s.gpu.core.pc.getLsbD 0 = false
  dspPcEven : s.dsp.core.pc.getLsbD 0 = false
  lineBound : s.sched.line ≤ s.params.lines
  noneFetched : s.fetched = []
  noCycles : s.stepCycles = 0

/-- The parameters meet the constraints of R9. -/
structure Params.Valid (m : Params) : Prop where
  frameBudget : 1 ≤ m.frameBudget
  lines : 1 ≤ m.lines
  divCpu : 1 ≤ m.divCpu
  divGpu : 1 ≤ m.divGpu
  divDsp : 1 ≤ m.divDsp
  idleCpu : 1 ≤ m.idleCpu
  idleGpu : 1 ≤ m.idleGpu
  idleDsp : 1 ≤ m.idleDsp

/-- ExtDevice is the default one: plain storage, nothing raised (R127). -/
def State.defaultDevices (s : State) : Prop := s.params.device = .default

/-! ### The bytes of an access -/

/-- The bus addresses of an aligned access. -/
def bytesFrom (sz : Size) (a : Nat) : List Nat := (List.range sz.bytes).map fun k => a + k

/-- The bus addresses that an access of a requester covers: wrapped and aligned, a CPU long as two words (R101, R102). -/
def accessBytes (p : Role) (sz : Size) (addr : Long) : List Nat :=
  match sz, p with
  | .l, .cpu => bytesFrom .w (alignedAddr .w addr) ++ bytesFrom .w (alignedAddr .w (addr + 2))
  | sz, _ => bytesFrom sz (alignedAddr sz addr)

/-- Every byte of memory outside a list of bus addresses reads in `t` as it reads in `s`. -/
def MemSameOutside (bytes : List Nat) (s t : State) : Prop := ∀ a, a ∉ bytes → t.mem.read a = s.mem.read a

/-! ### Frames -/

/-- `t` is `s` but for the condition codes. -/
def OnlyCcr (s t : State) : Prop := t = s.setCcr t.cpu.sr.ccr

/-- `t` is `s` but for one data register. -/
def OnlyDreg (r : Fin 8) (s t : State) : Prop := t = s.setDreg r (t.dreg r)

/-- `t` is `s` but for one data register and the condition codes. -/
def OnlyDregCcr (r : Fin 8) (s t : State) : Prop := t = (s.setDreg r (t.dreg r)).setCcr t.cpu.sr.ccr

/-- `t` is `s` but for one address register. -/
def OnlyAreg (r : Fin 8) (s t : State) : Prop := t = s.setAreg r (t.areg r)

/-- `t` is `s` but for the CPU's program counter. -/
def OnlyPc (s t : State) : Prop := t = { s with cpu := { s.cpu with pc := t.cpu.pc } }

/-- `t` is `s` but for CPU registers: memory, both units, every line, VI, the devices, the scheduler, the parameters and
the scratch fields are the same. -/
def OnlyCpu (s t : State) : Prop := t = { s with cpu := t.cpu }

/-- `t` is `s` but for one register of a unit's active bank and its flags Z, N and C. -/
def OnlyRregFlags (u : Coproc) (n : Fin 32) (s t : State) : Prop :=
  t = (s.setRreg u n (t.rreg u n)).setZNC u (t.risc u).z (t.risc u).n (t.risc u).c

/-- `t` is `s` but for one register of a unit's active bank. -/
def OnlyRreg (u : Coproc) (n : Fin 32) (s t : State) : Prop := t = s.setRreg u n (t.rreg u n)

/-- `t` is `s` but for the flags Z, N and C of a unit. -/
def OnlyRflags (u : Coproc) (s t : State) : Prop := t = s.setZNC u (t.risc u).z (t.risc u).n (t.risc u).c

/-- With memory in canonical form and the default devices, every byte outside a list of bus addresses is as it was. -/
def MemKept (bytes : List Nat) (s t : State) : Prop :=
  s.mem.wf = true → s.defaultDevices → MemSameOutside bytes s t

/-- The bus addresses of the operand at a location: none for a register or an immediate. -/
def Loc.bytes (l : Loc) (sz : Size) : List Nat :=
  match l with
  | .mem a => accessBytes .cpu sz a
  | .dreg _ => []
  | .areg _ => []
  | .imm _ => []

/-- An instruction that evaluates `ea` once, reads it and writes `res` back changes `s` into `t`: nothing but the
location and the condition codes differs from the state after the read, and no byte of memory outside the location from
`s`. -/
def Rewrites (ea : EA) (sz : Size) (s t : State) (res : BitVec sz.bits) : Prop :=
  let l := locEA ea sz s
  OnlyCcr (writeLoc l.1 sz res (readLoc l.1 sz l.2).2) t ∧ MemKept (l.1.bytes sz) s t

/-- An instruction that evaluates `ea` once and writes `res` there without reading changes `s` into `t`. -/
def Overwrites (ea : EA) (sz : Size) (s t : State) (res : BitVec sz.bits) : Prop :=
  let l := locEA ea sz s
  OnlyCcr (writeLoc l.1 sz res l.2) t ∧ MemKept (l.1.bytes sz) s t

/-- The bits of a register above a size are as they were (R21). -/
def KeepsHigh (sz : Size) (old new : Long) : Prop := new.toNat / 2 ^ sz.bits = old.toNat / 2 ^ sz.bits

/-! ### Results and flags in the spec's terms -/

/-- N and Z of a CPU result of `n` bits (R234, R260). -/
def NZ {n : Nat} (r : BitVec n) (f : Ccr) : Prop :=
  (f.n = true ↔ 2 ^ (n - 1) ≤ r.toNat) ∧ (f.z = true ↔ r.toNat = 0)

/-- The std flags (R234): N and Z from the result, V and C clear, X as it was. -/
def StdFlags {n : Nat} (r : BitVec n) (old f : Ccr) : Prop := NZ r f ∧ f.v = false ∧ f.c = false ∧ f.x = old.x

/-- The integer is a signed value of `n` bits (R260). -/
def FitsSigned (n : Nat) (v : Int) : Prop := -(2 ^ (n - 1) : Int) ≤ v ∧ v < (2 ^ (n - 1) : Int)

/-- Result, N, V, C and X of an addition with carry in (R260); Z is said apart, since it may be sticky. -/
structure Added {n : Nat} (s d : BitVec n) (x : Bool) (r : BitVec n) (f : Ccr) : Prop where
  result : r.toNat = (d.toNat + s.toNat + x.toNat) % 2 ^ n
  carry : f.c = true ↔ 2 ^ n ≤ d.toNat + s.toNat + x.toNat
  extend : f.x = f.c
  overflow : f.v = true ↔ ¬ FitsSigned n (d.toInt + s.toInt + x.toNat)
  negative : f.n = true ↔ 2 ^ (n - 1) ≤ r.toNat

/-- Result, N, V and C of a subtraction with borrow in (R260): destination minus source. -/
structure Subtracted {n : Nat} (s d : BitVec n) (x : Bool) (r : BitVec n) (f : Ccr) : Prop where
  result : (r.toNat : Int) = ((d.toNat : Int) - s.toNat - x.toNat) % 2 ^ n
  borrow : f.c = true ↔ d.toNat < s.toNat + x.toNat
  overflow : f.v = true ↔ ¬ FitsSigned n (d.toInt - s.toInt - x.toNat)
  negative : f.n = true ↔ 2 ^ (n - 1) ≤ r.toNat

/-- Two decimal digits in a byte (R283). -/
def isBcd (b : Byte) : Prop := b.toNat / 16 ≤ 9 ∧ b.toNat % 16 ≤ 9

/-- The number two decimal digits stand for (R283). -/
def bcdValue (b : Byte) : Nat := 10 * (b.toNat / 16) + b.toNat % 16

/-- The flags of a RISC result (R400): Z and N from it, C as given. -/
def RiscFlags (u : Coproc) (r : Long) (c : Bool) (t : State) : Prop :=
  ((t.risc u).z = true ↔ r.toNat = 0) ∧ ((t.risc u).n = true ↔ 2 ^ 31 ≤ r.toNat) ∧ (t.risc u).c = c

/-! ### Exceptions -/

/-- The CPU's frame at `SSP - 6` to `SSP - 1` lies in main RAM and is aligned. -/
def FrameInRam (s : State) : Prop := s.cpu.ssp.toNat % 2 = 0 ∧ 6 ≤ s.cpu.ssp.toNat ∧ s.cpu.ssp.toNat ≤ 0x200000

/-- SR as exception entry leaves it (R614). -/
def EntrySr (k : ExcKind) (old new : StatusReg) : Prop :=
  new.s = true ∧ new.t = false ∧ new.ccr = old.ccr ∧
    new.i = (match k with
      | .vector _ => old.i
      | .interrupt => 2)

/-- `Exception(v, savedPc)` or `Interrupt(savedPc)` took `s` into `t` (R614): the whole sequence, said of the states
before and after. Each push is a write in the state that R614 has reached: SR changed, SSP moved. -/
structure ExceptionTaken (k : ExcKind) (savedPc : Long) (s t : State) : Prop where
  sr : EntrySr k s.cpu.sr t.cpu.sr
  data : t.cpu.d = s.cpu.d
  address : t.cpu.a = s.cpu.a
  usp : t.cpu.usp = s.cpu.usp
  ssp : t.cpu.ssp = s.cpu.ssp - 6
  pc : t.cpu.pc = evenAddr (t.mem.read32 (4 * (excVector k).toNat))
  run : t.cpu.run = .running
  cpuCycles : t.cpu.cycles = s.cpu.cycles
  cost : t.stepCycles = s.stepCycles + Config.costExc .cpu k
  frame : s.mem.wf = true → FrameInRam s →
    t.mem.read16 (s.cpu.ssp.toNat - 6) = s.cpu.sr.toHalf ∧ t.mem.read32 (s.cpu.ssp.toNat - 4) = savedPc
  pushes :
    let a := memWrite .cpu .l (s.cpu.ssp - 4) savedPc
      { s with cpu := { s.cpu with sr := t.cpu.sr, ssp := s.cpu.ssp - 4 } }
    let b := memWrite .cpu .w (s.cpu.ssp - 6) s.cpu.sr.toHalf
      { a with cpu := { s.cpu with sr := t.cpu.sr, ssp := s.cpu.ssp - 6 } }
    t = { b with cpu := t.cpu, stepCycles := t.stepCycles }
  rest : FrameInRam s → t = { s with cpu := t.cpu, mem := t.mem, stepCycles := t.stepCycles }
  memory : MemKept (accessBytes .cpu .l (s.cpu.ssp - 4) ++ accessBytes .cpu .w (s.cpu.ssp - 6)) s t

end Sys2Proof.Machine
end

