-- ==== Sys2Proof/Certificates/Slice0/Obligations.lean ====
section
/-! DEFINITION. The statements for the provers, from the numbered rules of spec/. Those about one instruction say that
`exec` answers a next state and what it holds. A frame is said against the state after the operands are read, with the
functions the meanings use (`locEA`, `readEA`, `writeLoc`); `OperandEvaluation`, `ReadOperand` and `WriteOperand` say
what those do, and the clauses `MemKept` compare memory with the state before the instruction. -/
open Sys2Proof Sys2Proof.Machine

/-! ### Encoding -/

/-- The CPU's decoder and encoder agree: every instruction that a row of R180 admits is decoded from its own encoding,
so no bit is dropped; and what a word decodes to is an instruction its row admits whose encoding is that word, so no
two words are one instruction (R176, R180, R181). -/
def Obligations.DecodeEncodeCpu : Prop :=
  (∀ i : Instr, i.role = .cpu → i.wellFormed = true → decode .cpu (encode i) = .ok i) ∧
  (∀ (w : Half) (i : Instr), decode .cpu w = .ok i → i.role = .cpu ∧ i.wellFormed = true ∧ encode i = w)

namespace Sys2Proof.Machine

/-- The word with opcode `op` and fields `f1` and `f2` decodes on a unit to an instruction (R200, R203). -/
def Decodes (u : Coproc) (op f1 f2 : Nat) (i : Instr) : Prop :=
  decode (.risc u) (BitVec.ofNat 16 (op * 1024 + f1 * 32 + f2)) = .ok i

end Sys2Proof.Machine

/-- The units' decoders and the encoder agree on every instruction, and every word decodes on each unit, to an
instruction of that unit with the word's opcode. Row by row of the opcode map: which instruction an opcode is, that
each field it names is kept and each field the map calls ignored is dropped, whatever it holds; on the GPU opcode 63
is PACK for `f1 = 0` and UNPACK for every other `f1` (R200, R203, R205, R206). -/
def Obligations.DecodeEncodeRisc : Prop :=
  (∀ (u : Coproc) (i : Instr), i.role = .risc u → i.wellFormed = true → decode (.risc u) (encode i) = .ok i) ∧
  (∀ (u : Coproc) (w : Half), ∃ i, decode (.risc u) w = .ok i ∧ i.role = .risc u ∧
     (encode i).extractLsb' 10 6 = w.extractLsb' 10 6) ∧
  (∀ (u : Coproc) (m n : Fin 32) (q c : BitVec 5),
     Decodes u 0 m n (.rAdd u m n) ∧ Decodes u 1 m n (.rAddc u m n) ∧ Decodes u 2 q.toNat n (.rAddq u q n) ∧
     Decodes u 3 q.toNat n (.rAddqt u q n) ∧ Decodes u 4 m n (.rSub u m n) ∧ Decodes u 5 m n (.rSubc u m n) ∧
     Decodes u 6 q.toNat n (.rSubq u q n) ∧ Decodes u 7 q.toNat n (.rSubqt u q n) ∧
     Decodes u 8 q.toNat n (.rNeg u n) ∧ Decodes u 9 m n (.rAnd u m n) ∧ Decodes u 10 m n (.rOr u m n) ∧
     Decodes u 11 m n (.rXor u m n) ∧ Decodes u 12 q.toNat n (.rNot u n) ∧ Decodes u 13 q.toNat n (.rBtst u q n) ∧
     Decodes u 14 q.toNat n (.rBset u q n) ∧ Decodes u 15 q.toNat n (.rBclr u q n) ∧ Decodes u 16 m n (.rMult u m n) ∧
     Decodes u 17 m n (.rImult u m n) ∧ Decodes u 18 m n (.rImultn u m n) ∧ Decodes u 19 q.toNat n (.rResmac u n) ∧
     Decodes u 20 m n (.rImacn u m n) ∧ Decodes u 21 m n (.rDiv u m n) ∧ Decodes u 22 q.toNat n (.rAbs u n) ∧
     Decodes u 23 m n (.rSh u m n) ∧ Decodes u 24 q.toNat n (.rShlq u q n) ∧ Decodes u 25 q.toNat n (.rShrq u q n) ∧
     Decodes u 26 m n (.rSha u m n) ∧ Decodes u 27 q.toNat n (.rSharq u q n) ∧ Decodes u 28 m n (.rRor u m n) ∧
     Decodes u 29 q.toNat n (.rRorq u q n) ∧ Decodes u 30 m n (.rCmp u m n) ∧ Decodes u 31 q.toNat n (.rCmpq u q n) ∧
     Decodes u 34 m n (.rMove u m n) ∧ Decodes u 35 q.toNat n (.rMoveq u q n) ∧ Decodes u 36 m n (.rMoveta u m n) ∧
     Decodes u 37 m n (.rMovefa u m n) ∧ Decodes u 38 q.toNat n (.rMovei u n) ∧ Decodes u 39 m n (.rLoadb u m n) ∧
     Decodes u 40 m n (.rLoadw u m n) ∧ Decodes u 41 m n (.rLoad u m n) ∧ Decodes u 43 q.toNat n (.rLoadR14q u q n) ∧
     Decodes u 44 q.toNat n (.rLoadR15q u q n) ∧ Decodes u 45 m n (.rStoreb u m n) ∧
     Decodes u 46 m n (.rStorew u m n) ∧ Decodes u 47 m n (.rStore u m n) ∧
     Decodes u 49 q.toNat n (.rStoreR14q u q n) ∧ Decodes u 50 q.toNat n (.rStoreR15q u q n) ∧
     Decodes u 51 q.toNat n (.rMovePc u n) ∧ Decodes u 54 m n (.rMmult u m n) ∧ Decodes u 55 m n (.rMtoi u m n) ∧
     Decodes u 56 m n (.rNormi u m n) ∧ Decodes u 57 q.toNat n (.rNop u) ∧ Decodes u 58 m n (.rLoadR14m u m n) ∧
     Decodes u 59 m n (.rLoadR15m u m n) ∧ Decodes u 60 m n (.rStoreR14m u m n) ∧
     Decodes u 61 m n (.rStoreR15m u m n) ∧ Decodes u 52 m c.toNat (.rJump u m c) ∧
     Decodes u 53 q.toNat c.toNat (.rJr u q c) ∧ Decodes .gpu 32 q.toNat n (.gSat8 n) ∧
     Decodes .gpu 33 q.toNat n (.gSat16 n) ∧ Decodes .gpu 42 m n (.gLoadp m n) ∧ Decodes .gpu 48 m n (.gStorep m n) ∧
     Decodes .gpu 62 q.toNat n (.gSat24 n) ∧ Decodes .gpu 63 0 n (.gPack n) ∧
     (q ≠ 0 → Decodes .gpu 63 q.toNat n (.gUnpack n)) ∧ Decodes .dsp 32 q.toNat n (.dSubqmod q n) ∧
     Decodes .dsp 33 q.toNat n (.dSat16s n) ∧ Decodes .dsp 42 q.toNat n (.dSat32s n) ∧
     Decodes .dsp 48 q.toNat n (.dMirror n) ∧ Decodes .dsp 62 q.toNat n (.dReserved62) ∧
     Decodes .dsp 63 q.toNat n (.dAddqmod q n))

/-- The examples' words decode to what the examples name (R240, R250, R266, R283, R310, R340, R352, R401, R455, R491,
R503, R516), and words without a row are rejected (R356). -/
def Obligations.DecodeSamples : Prop :=
  decode .cpu 0x323C = .ok (.moveW (.dn 1) .imm) ∧ decode .cpu 0x4E56 = .ok (.link 6) ∧
  decode .cpu 0x9041 = .ok (.subEaDn 0 .w (.dn 1)) ∧ decode .cpu 0xC101 = .ok (.abcd 0 .regs 1) ∧
  decode .cpu 0xE3A8 = .ok (.lslDn (.reg 1) .l 0) ∧ decode .cpu 0x6604 = .ok (.bcc .ne 4) ∧
  decode .cpu 0x4181 = .ok (.chk 0 (.dn 1)) ∧ decode (.risc .gpu) 0x0022 = .ok (.rAdd .gpu 1 2) ∧
  decode (.risc .dsp) 0x9803 = .ok (.rMovei .dsp 3) ∧ decode (.risc .gpu) 0xD7C1 = .ok (.rJr .gpu 30 1) ∧
  decode (.risc .gpu) 0xFC02 = .ok (.gPack 2) ∧ decode (.risc .dsp) 0xFC82 = .ok (.dAddqmod 4 2) ∧
  decode .cpu 0x4E7B = .error .noRow ∧ decode .cpu 0x41C0 = .error .noRow

/-! ### Memory and devices -/

/-- The stages of an access. An access is performed at the address wrapped to 24 bits with the low bits of its width
dropped, a CPU long as two word accesses, the high half first (R101, R102). An access that no region contains reads
the fill byte in every byte, is discarded as a write, and changes nothing (R104). Every region is readable, a write to
a region that is not writable is discarded, and a fetch from one that is not executable answers the fill value (R105).
A fetch from an executable region answers the word stored there, high byte first, and moves `pc` past it (R106, R108).
-/
def Obligations.AccessStages : Prop :=
  (∀ (p : Role) (addr : Long) (s : State), regionAt (addr.toNat % 0x1000000 / 4 * 4) = none →
     memRead p .b addr s = (0xFF, s) ∧ memRead p .w addr s = (0xFFFF, s) ∧ fetchWordAt addr s = 0xFFFF ∧
     (∀ u, memRead (.risc u) .l addr s = (0xFFFFFFFF, s)) ∧
     (∀ v, memWrite p .b addr v s = s) ∧ (∀ v, memWrite p .w addr v s = s) ∧
     (∀ u v, memWrite (.risc u) .l addr v s = s) ∧
     (regionAt ((addr + 2).toNat % 0x1000000 / 4 * 4) = none →
       memRead .cpu .l addr s = (0xFFFFFFFF, s) ∧ ∀ v, memWrite .cpu .l addr v s = s)) ∧
  (∀ (p : Role) (addr : Long) (s : State) (g : Region), regionAt (addr.toNat % 0x1000000 / 4 * 4) = some g →
     g.readable = true ∧
     (g.writable = false → (∀ v, memWrite p .b addr v s = s) ∧ (∀ v, memWrite p .w addr v s = s) ∧
       ∀ u v, memWrite (.risc u) .l addr v s = s) ∧
     (g.executable = false → fetchWordAt addr s = 0xFFFF) ∧
     (g.executable = true →
       let a := addr.toNat % 0x1000000 / 2 * 2
       (fetchWordAt addr s).toNat = (s.mem.read a).toNat * 256 + (s.mem.read (a + 1)).toNat)) ∧
  (∀ (p : Role) (u : Coproc) (a b : Long) (s : State),
     (a.toNat % 0x1000000 = b.toNat % 0x1000000 →
       memRead p .b a s = memRead p .b b s ∧ ∀ v, memWrite p .b a v s = memWrite p .b b v s) ∧
     (a.toNat % 0x1000000 / 2 = b.toNat % 0x1000000 / 2 →
       memRead p .w a s = memRead p .w b s ∧ (∀ v, memWrite p .w a v s = memWrite p .w b v s) ∧
       fetchWordAt a s = fetchWordAt b s) ∧
     (a.toNat % 0x1000000 / 4 = b.toNat % 0x1000000 / 4 →
       memRead (.risc u) .l a s = memRead (.risc u) .l b s ∧
       ∀ v, memWrite (.risc u) .l a v s = memWrite (.risc u) .l b v s) ∧
     (memRead .cpu .l a s).1.toNat =
       (memRead .cpu .w a s).1.toNat * 2 ^ 16 + (memRead .cpu .w (a + 2) (memRead .cpu .w a s).2).1.toNat ∧
     (memRead .cpu .l a s).2 = (memRead .cpu .w (a + 2) (memRead .cpu .w a s).2).2 ∧
     ∀ v, memWrite .cpu .l a v s =
       memWrite .cpu .w (a + 2) (v.extractLsb' 0 16) (memWrite .cpu .w a (v.extractLsb' 16 16) s)) ∧
  (∀ s : State,
     (let f := fetch16 .cpu s
      f.1 = fetchWordAt s.cpu.pc s ∧ f.2.cpu.pc.toNat = (s.cpu.pc.toNat + 2) % 2 ^ 32 / 2 * 2 ∧
      f.2 = { s with cpu := { s.cpu with pc := f.2.cpu.pc }, fetched := s.fetched ++ [f.1] }) ∧
     (∀ u, let f := fetch16 (.risc u) s
      f.1 = fetchWordAt (s.risc u).pc s ∧ (f.2.risc u).pc.toNat = ((s.risc u).pc.toNat + 2) % 2 ^ 32 / 2 * 2 ∧
      f.2 = { s.setRisc u { s.risc u with pc := (f.2.risc u).pc } with fetched := s.fetched ++ [f.1] }))

namespace Sys2Proof.Machine

/-- What a function of ExtDevice answered took `s` into `t` (R127): the device's own state is the one answered, a byte
of a byte array that it stored reads as it stored it last, the lines it raised are pending too, and nothing else
differs. -/
structure DeviceDid (r : ExtResponse) (s t : State) : Prop where
  own : t.ext = { s.ext with own := r.own }
  stored : s.mem.wf = true → ∀ x b before after g, r.stores = before ++ (x, b) :: after → (∀ c ∈ after, c.1 ≠ x) →
    regionAt x = some g → g.backing = .bytes → t.mem.read x = b
  kept : s.mem.wf = true → ∀ x,
    (∀ c ∈ r.stores, c.1 ≠ x) ∨ (∀ g, regionAt x = some g → g.backing ≠ .bytes) → t.mem.read x = s.mem.read x
  enabled : ∀ p k, (t.line p k).enabled = (s.line p k).enabled
  raised : ∀ p k, (t.line p k).pending = true ↔
    (s.line p k).pending = true ∨ ((p, k) ∈ r.raises ∧ k < (if p = .risc .dsp then 6 else 5))
  rest : t = { s with
    mem := t.mem, ext := t.ext, cpuLines := t.cpuLines, gpu := { s.gpu with lines := t.gpu.lines },
    dsp := { s.dsp with lines := t.dsp.lines } }

end Sys2Proof.Machine

/-- A read of a readable byte array, a ROM too, answers its bytes, the first the most significant, and changes
nothing. In a readable and writable byte array a write is read back at the same address and width as big-endian bytes
and changes nothing but the bytes of the access (R106, R107); with the default devices a read, wherever it goes,
changes no state, and a write, wherever it goes, leaves every byte outside its access, the CPU and the scheduler
(R127, R132). A unit of ExtDevice, read or written at its width: the default device answers the last value written and
keeps a write; another device's `read` or `write` is called once with the unit's address in the state of the access,
and its effect follows; so does the effect of its `tick` (R127). Which functions the `n`-th device has is open (log
9). -/
def Obligations.ByteArrayAccess : Prop :=
  (∀ (p : Role) (sz : Size) (addr : Long) (s : State),
     (∀ a ∈ accessBytes p sz addr, ∃ g, regionAt a = some g ∧ g.backing = .bytes ∧ g.readable = true) →
     (memRead p sz addr s).1.toNat = bigEndian ((accessBytes p sz addr).map s.mem.read) ∧
     (memRead p sz addr s).2 = s) ∧
  (∀ (p : Role) (sz : Size) (addr : Long) (v : BitVec sz.bits) (s : State), s.mem.wf = true →
     (∀ a ∈ accessBytes p sz addr, ∃ g, regionAt a = some g ∧ g.backing = .bytes ∧ g.readable = true ∧
       g.writable = true) →
     (memRead p sz addr (memWrite p sz addr v s)).1 = v ∧
     bigEndian ((accessBytes p sz addr).map (memWrite p sz addr v s).mem.read) = v.toNat ∧
     memWrite p sz addr v s = s.setMem (memWrite p sz addr v s).mem ∧
     MemSameOutside (accessBytes p sz addr) s (memWrite p sz addr v s)) ∧
  (∀ (p : Role) (sz : Size) (addr : Long) (v : BitVec sz.bits) (s : State), s.mem.wf = true → s.defaultDevices →
     (memRead p sz addr s).2 = s ∧
     MemSameOutside (accessBytes p sz addr) s (memWrite p sz addr v s) ∧
     (memWrite p sz addr v s).cpu = s.cpu ∧ (memWrite p sz addr v s).sched = s.sched) ∧
  (∀ (p : Role) (sz : Size) (a : Long) (v : BitVec sz.bits) (s : State) (g : Region), regionAt a.toNat = some g →
     (g.backing = .ext sz.bytes ∨ (g.backing = .tomRegs ∧ sz = .w ∧ a ≠ 0xF0004E ∧ a ≠ 0xF000E0)) →
     a.toNat % sz.bytes = 0 → (sz = .l → p ≠ .cpu) →
     (s.params.device = .default → s.ext.units.wf = true →
       (memRead p sz a (memWrite p sz a v s)).1 = v ∧
       memWrite p sz a v s = { s with ext := (memWrite p sz a v s).ext } ∧
       ∀ x, x ∉ bytesFrom sz a.toNat → (memWrite p sz a v s).ext.units.read x = s.ext.units.read x) ∧
     ∀ n own, s.params.device = .handler n own →
       let r := Config.extHandler n (.read a.toNat) s
       (memRead p sz a s).1.toNat = r.value.toNat % 2 ^ sz.bits ∧ DeviceDid r s (memRead p sz a s).2 ∧
       DeviceDid (Config.extHandler n (.write a.toNat (v.setWidth 32)) s) s (memWrite p sz a v s)) ∧
  (∀ (e : ExtEvent) (s : State),
     (s.params.device = .default → extCall (.tick e) s = s) ∧
     ∀ n own, s.params.device = .handler n own →
       DeviceDid (Config.extHandler n (.tick e) s) s (extCall (.tick e) s))

namespace Sys2Proof.Machine

/-- The address of FLAGS of a unit (R34). -/
def flagsAddr : Coproc → Long
  | .gpu => 0xF02100
  | .dsp => 0xF1A100

/-- `new` is the value `old` of `unit` bytes with its `n` bytes from byte `off` replaced by `v`, byte 0 the most
significant (R109). -/
def BytesReplaced (unit n off v old new : Nat) : Prop :=
  let below := 256 ^ (unit - off - n)
  new = old / (below * 256 ^ n) * (below * 256 ^ n) + v * below + old % below

/-- The address of CTRL of a unit (R35). -/
def ctrlAddr : Coproc → Long
  | .gpu => 0xF02114
  | .dsp => 0xF1A114

end Sys2Proof.Machine

/-- A long written by a unit to FLAGS: flags and stored bits, enabled flags, IMASK that can only be cleared, pending
flags cleared; a read answers flags, IMASK, enabled flags, REGPAGE and DMAEN, every other bit 0 (R34). A long written
to CTRL: GO, SINGLE_STEP and BUS_HOG are stored, bit 1 raises the unit's CPU line, bit 2 its own line 0, no pending
flag is cleared and no enabled flag changes; a read answers GO, SINGLE_STEP, the pending flags, BUS_HOG and VERSION 2,
every other bit 0 (R35, R608). Any processor reaches these and every other register of four bytes by narrow accesses
too: a read answers its bytes of the register, byte 0 the most significant, a write merges into what a read would
answer (R109). -/
def Obligations.FlagsAndCtrl : Prop :=
  (∀ (w u : Coproc) (v : Long) (s : State),
     let t := memWrite (.risc w) .l (flagsAddr u) v s
     let en : Nat → Nat := fun k => if k = 5 then 16 else 4 + k
     let clr : Nat → Nat := fun k => if k = 5 then 17 else 9 + k
     (t.risc u).z = v.getLsbD 0 ∧ (t.risc u).c = v.getLsbD 1 ∧ (t.risc u).n = v.getLsbD 2 ∧
     (t.risc u).imask = ((s.risc u).imask && v.getLsbD 3) ∧ (t.risc u).regpage = v.getLsbD 14 ∧
     (t.risc u).dmaen = v.getLsbD 15 ∧
     (∀ k, (u = .dsp ∧ k < 6) ∨ k < 5 → (t.line (.risc u) k).enabled = v.getLsbD (en k) ∧
       (t.line (.risc u) k).pending = ((s.line (.risc u) k).pending && !v.getLsbD (clr k))) ∧
     t.risc u = { s.risc u with
                  z := (t.risc u).z, c := (t.risc u).c, n := (t.risc u).n, imask := (t.risc u).imask,
                  regpage := (t.risc u).regpage, dmaen := (t.risc u).dmaen } ∧
     (u = .gpu → t = { s with gpu := { s.gpu with core := t.gpu.core, lines := t.gpu.lines } }) ∧
     (u = .dsp → t = { s with dsp := { s.dsp with core := t.dsp.core, lines := t.dsp.lines } })) ∧
  (∀ (w u : Coproc) (s : State),
     let r := memRead (.risc w) .l (flagsAddr u) s
     r.2 = s ∧ r.1.getLsbD 0 = (s.risc u).z ∧ r.1.getLsbD 1 = (s.risc u).c ∧ r.1.getLsbD 2 = (s.risc u).n ∧
     r.1.getLsbD 3 = (s.risc u).imask ∧ (∀ k, k < 5 → r.1.getLsbD (4 + k) = (s.line (.risc u) k).enabled) ∧
     r.1.getLsbD 14 = (s.risc u).regpage ∧ r.1.getLsbD 15 = (s.risc u).dmaen ∧
     r.1.getLsbD 16 = (decide (u = .dsp) && (s.line (.risc u) 5).enabled) ∧
     ∀ k, (9 ≤ k ∧ k < 14) ∨ 17 ≤ k → r.1.getLsbD k = false) ∧
  (∀ (w u : Coproc) (v : Long) (s : State),
     let t := memWrite (.risc w) .l (ctrlAddr u) v s
     t.risc u = { s.risc u with go := v.getLsbD 0, singleStep := v.getLsbD 3, busHog := v.getLsbD 11 } ∧
     (∀ k, (t.line .cpu k).pending = ((s.line .cpu k).pending || (v.getLsbD 1 && decide (k = cpuIntLine u)))) ∧
     (∀ k, (t.line (.risc u) k).pending = ((s.line (.risc u) k).pending || (v.getLsbD 2 && decide (k = 0)))) ∧
     (∀ q k, (t.line q k).enabled = (s.line q k).enabled) ∧
     (u = .gpu → cpuIntLine u = 1 ∧
       t = { s with cpuLines := t.cpuLines, gpu := { s.gpu with core := t.gpu.core, lines := t.gpu.lines } }) ∧
     (u = .dsp → cpuIntLine u = 4 ∧
       t = { s with cpuLines := t.cpuLines, dsp := { s.dsp with core := t.dsp.core, lines := t.dsp.lines } })) ∧
  (∀ (w u : Coproc) (s : State),
     let r := memRead (.risc w) .l (ctrlAddr u) s
     r.2 = s ∧ r.1.getLsbD 0 = (s.risc u).go ∧ r.1.getLsbD 3 = (s.risc u).singleStep ∧
     (∀ k, k < 5 → r.1.getLsbD (6 + k) = (s.line (.risc u) k).pending) ∧ r.1.getLsbD 11 = (s.risc u).busHog ∧
     (r.1.extractLsb' 12 4).toNat = 2 ∧ r.1.getLsbD 16 = (decide (u = .dsp) && (s.line (.risc u) 5).pending) ∧
     ∀ k, k = 1 ∨ k = 2 ∨ k = 4 ∨ k = 5 ∨ 17 ≤ k → r.1.getLsbD k = false) ∧
  (∀ (p : Role) (w : Coproc) (a o : Long) (s : State) (g : Region), regionAt a.toNat = some g →
     g.backing.unit = 4 → a.toNat % 4 = 0 →
     let r := memRead (.risc w) .l a s
     (o.toNat < 4 →
       (memRead p .b (a + o) s).1 = r.1.extractLsb' (24 - 8 * o.toNat) 8 ∧ (memRead p .b (a + o) s).2 = r.2 ∧
       ∀ (v : Byte) (m : Long), BytesReplaced 4 1 o.toNat v.toNat r.1.toNat m.toNat →
         memWrite p .b (a + o) v s = memWrite (.risc w) .l a m s) ∧
     (o = 0 ∨ o = 2 →
       (memRead p .w (a + o) s).1 = r.1.extractLsb' (16 - 8 * o.toNat) 16 ∧ (memRead p .w (a + o) s).2 = r.2 ∧
       ∀ (v : Half) (m : Long), BytesReplaced 4 2 o.toNat v.toNat r.1.toNat m.toNat →
         memWrite p .w (a + o) v s = memWrite (.risc w) .l a m s))

/-- A word written to INT1 sets the five enabled flags from bits 4:0, then clears the pending flags that bits 12:8
name; a read answers the pending flags (R52). The stored device registers read back what their rules keep of a long
written by a unit, and the write changes nothing else: VI 11 bits, MTXC 5, MTXA bits 11:2, END, HIDATA and MOD all 32,
the PC port all but bit 0; DIVCTRL stores bit 0 and REMAIN does not change; MACHI ignores the write and reads the
accumulator's top byte (R36 to R42, R53). A register of two bytes by other accesses: a byte read answers its byte; a
byte write merges into what a read would answer, for INT1 into the enabled flags; a unit's long is two accesses, the
high half first (R52, R109). -/
def Obligations.Int1AndStoredRegisters : Prop :=
  (∀ (p : Role) (v : Half) (s : State),
     let t := memWrite p .w 0xF000E0 v s
     (∀ k, k < 5 → (t.line .cpu k).enabled = v.getLsbD k ∧
       (t.line .cpu k).pending = ((s.line .cpu k).pending && !v.getLsbD (8 + k))) ∧
     (∀ k, (memRead p .w 0xF000E0 s).1.getLsbD k = (s.line .cpu k).pending) ∧ (memRead p .w 0xF000E0 s).2 = s ∧
     t = { s with cpuLines := t.cpuLines } ∧
     (let e := memWrite p .w 0xF0004E v s
      (memRead p .w 0xF0004E s).1.toNat = s.vi.toNat ∧ (memRead p .w 0xF0004E s).2 = s ∧
      e.vi.toNat = v.toNat % 2 ^ 11 ∧ e = { s with vi := e.vi })) ∧
  (∀ (w u : Coproc) (v : Long) (s : State),
     let put : Long → State := fun o => memWrite (.risc w) .l (flagsAddr u + o) v s
     let back : Long → Long := fun o => (memRead (.risc w) .l (flagsAddr u + o) (put o)).1
     let only : Long → (Risc → Risc) → Prop := fun o f => put o = s.setRisc u (f ((put o).risc u))
     let r := s.risc u
     (back 4).toNat = v.toNat % 32 ∧ only 4 (fun q => { r with mtxWidth := q.mtxWidth, matCol := q.matCol }) ∧
     (back 8).toNat = v.toNat % 2 ^ 12 / 4 * 4 ∧ only 8 (fun q => { r with mtxa := q.mtxa }) ∧
     back 0xC = v ∧ only 0xC (fun _ => { r with endian := v }) ∧
     (back 0x10).toNat = v.toNat / 2 * 2 ∧ only 0x10 (fun q => { r with pc := q.pc }) ∧
     back 0x18 = v ∧ (u = .gpu → put 0x18 = { s with gpu := { s.gpu with hidata := v } }) ∧
     (u = .dsp → put 0x18 = { s with dsp := { s.dsp with modulo := v } }) ∧
     back 0x1C = r.remain ∧ only 0x1C (fun _ => { r with divOffset := v.getLsbD 0 }) ∧
     memWrite (.risc w) .l 0xF1A120 v s = s ∧
     (memRead (.risc w) .l 0xF1A120 s).1.toInt = (s.dsp.acc.extractLsb' 32 8).toInt) ∧
  (∀ (p q : Role) (w : Coproc) (a o : Long) (s : State) (g : Region), regionAt a.toNat = some g →
     g.backing.unit = 2 → a.toNat % 2 = 0 →
     let r := memRead q .w a s
     (o.toNat < 2 →
       (memRead p .b (a + o) s).1 = r.1.extractLsb' (8 - 8 * o.toNat) 8 ∧ (memRead p .b (a + o) s).2 = r.2 ∧
       (∀ (v : Byte) (m : Half), a ≠ 0xF000E0 → BytesReplaced 2 1 o.toNat v.toNat r.1.toNat m.toNat →
         memWrite p .b (a + o) v s = memWrite q .w a m s) ∧
       ∀ (v : Byte) (b m : Half), a = 0xF000E0 → (∀ k, b.getLsbD k = (decide (k < 5) && (s.line .cpu k).enabled)) →
         BytesReplaced 2 1 o.toNat v.toNat b.toNat m.toNat → memWrite p .b (a + o) v s = memWrite q .w a m s) ∧
     (a.toNat % 4 = 0 →
       (let lo := memRead q .w (a + 2) r.2
        (memRead (.risc w) .l a s).1.toNat = r.1.toNat * 2 ^ 16 + lo.1.toNat ∧ (memRead (.risc w) .l a s).2 = lo.2) ∧
       ∀ v : Long, memWrite (.risc w) .l a v s =
         memWrite q .w (a + 2) (v.extractLsb' 0 16) (memWrite q .w a (v.extractLsb' 16 16) s)))

/-! ### CPU operands -/

/-- Where each addressing mode's operand is, and what evaluating it changes (R231): the extension words it fetches
move `pc`, postincrement and predecrement move their register, nothing else differs. An extension word is the word
stored at `pc`, and a brief one names its index register by bits 15:12 and takes all of it or its low word
sign-extended by bit 11 (R108, R173). -/
def Obligations.OperandEvaluation : Prop :=
  ∀ (r : Fin 8) (sz : Size) (s : State),
    let f := fetch16 .cpu s
    let g := fetch16 .cpu f.2
    let inc : Nat := if sz = .b ∧ r = 7 then 2 else sz.bytes
    locEA (.dn r) sz s = (.dreg r, s) ∧ locEA (.an r) sz s = (.areg r, s) ∧ locEA (.ind r) sz s = (.mem (s.areg r), s) ∧
    (∃ t, locEA (.postinc r) sz s = (.mem (s.areg r), t) ∧ OnlyAreg r s t ∧
      (t.areg r).toNat = ((s.areg r).toNat + inc) % 2 ^ 32) ∧
    (∃ t, locEA (.predec r) sz s = (.mem (t.areg r), t) ∧ OnlyAreg r s t ∧
      ((t.areg r).toNat + inc) % 2 ^ 32 = (s.areg r).toNat) ∧
    (∃ a, locEA (.disp r) sz s = (.mem a, f.2) ∧
      (a.toNat : Int) = ((s.areg r).toNat + f.1.toInt) % 2 ^ 32) ∧
    (∃ a, locEA (.index r) sz s = (.mem a, f.2) ∧
      (a.toNat : Int) = ((s.areg r).toNat + (f.1.setWidth 8).toInt + (indexValue f.1 s).toInt) % 2 ^ 32) ∧
    (∃ a, locEA .absW sz s = (.mem a, f.2) ∧ a.toInt = f.1.toInt) ∧
    (∃ a, locEA .absL sz s = (.mem a, g.2) ∧ a.toNat = f.1.toNat * 2 ^ 16 + g.1.toNat) ∧
    (∃ a, locEA .pcDisp sz s = (.mem a, f.2) ∧ (a.toNat : Int) = (s.cpu.pc.toNat + f.1.toInt) % 2 ^ 32) ∧
    (∃ a, locEA .pcIndex sz s = (.mem a, f.2) ∧
      (a.toNat : Int) = (s.cpu.pc.toNat + (f.1.setWidth 8).toInt + (indexValue f.1 s).toInt) % 2 ^ 32) ∧
    (∃ v : Long, locEA .imm sz s = (.imm v, if sz = .l then g.2 else f.2) ∧
      v.toNat = (match sz with
        | .b => f.1.toNat % 256
        | .w => f.1.toNat
        | .l => f.1.toNat * 2 ^ 16 + g.1.toNat)) ∧
    (∀ (x : Half) (k : Fin 8), k.val = x.toNat / 2 ^ 12 % 8 →
      let i := if 2 ^ 15 ≤ x.toNat then s.areg k else s.dreg k
      (x.getLsbD 11 = true → indexValue x s = i) ∧
      (x.getLsbD 11 = false → (indexValue x s).toInt = (i.setWidth 16).toInt)) ∧
    (let a := s.cpu.pc.toNat % 2 ^ 24 / 2 * 2
     ∀ n, regionAt a = some n → n.executable = true →
       f.1.toNat = (s.mem.read a).toNat * 256 + (s.mem.read (a + 1)).toNat) ∧
    f.2 = { s with cpu := { s.cpu with pc := f.2.cpu.pc }, fetched := s.fetched ++ [f.1] } ∧
    (f.2.cpu.pc.toNat = (s.cpu.pc.toNat + 2) % 2 ^ 32 / 2 * 2)

/-- What reading at a location answers: the low bits of a register, what memory holds there, the immediate; and a
source operand is what is read at the location its mode gives. What reading a source operand leaves as it was, for
every mode and size: data registers, SR, the stack pointers but for A7 itself, address registers but for the one the
mode moves, the units' registers, the scheduler; with the default devices all of memory and the devices. What writing
at a location does: a data register keeps its bits above the size, an address register takes the sign-extended value,
memory is written by one access (R21, R231, R232, R236). -/
def Obligations.OperandAccess : Prop :=
  (∀ (sz : Size) (s : State),
     (∀ r, (readLoc (.dreg r) sz s).1.toNat = (s.dreg r).toNat % 2 ^ sz.bits ∧ (readLoc (.dreg r) sz s).2 = s) ∧
     (∀ r, (readLoc (.areg r) sz s).1.toNat = (s.areg r).toNat % 2 ^ sz.bits ∧ (readLoc (.areg r) sz s).2 = s) ∧
     (∀ a, readLoc (.mem a) sz s = memRead .cpu sz a s) ∧
     (∀ v, (readLoc (.imm v) sz s).1.toNat = v.toNat % 2 ^ sz.bits ∧ (readLoc (.imm v) sz s).2 = s) ∧
     ∀ ea, readEA ea sz s = readLoc (locEA ea sz s).1 sz (locEA ea sz s).2) ∧
  (∀ (ea : EA) (sz : Size) (s : State),
     let t := (readEA ea sz s).2
     t.cpu.d = s.cpu.d ∧ t.cpu.sr = s.cpu.sr ∧ t.cpu.run = s.cpu.run ∧ t.cpu.cycles = s.cpu.cycles ∧
     (∀ k, ea ≠ .postinc k ∧ ea ≠ .predec k → t.areg k = s.areg k) ∧
     ((∀ k, ea ≠ .postinc k ∧ ea ≠ .predec k) → t.cpu.usp = s.cpu.usp ∧ t.cpu.ssp = s.cpu.ssp) ∧
     (∀ u, t.risc u = s.risc u) ∧ t.sched = s.sched ∧ t.vi = s.vi ∧
     (∀ p k, (t.line p k).enabled = (s.line p k).enabled) ∧
     (s.defaultDevices → (∀ a, t.mem.read a = s.mem.read a) ∧ t.ext = s.ext ∧ t.gpu = s.gpu ∧ t.dsp = s.dsp ∧
       t.cpuLines = s.cpuLines)) ∧
  (∀ (sz : Size) (v : BitVec sz.bits) (s : State),
     (∀ r, let t := writeLoc (.dreg r) sz v s
       (t.dregAt sz r) = v ∧ KeepsHigh sz (s.dreg r) (t.dreg r) ∧ OnlyDreg r s t ∧
       ∀ k, k ≠ r → t.dreg k = s.dreg k) ∧
     (∀ r, let t := writeLoc (.areg r) sz v s
       (t.areg r).toInt = v.toInt ∧ OnlyAreg r s t ∧ ∀ k, k ≠ r → t.areg k = s.areg k) ∧
     (∀ a, writeLoc (.mem a) sz v s = memWrite .cpu sz a v s ∧ (writeLoc (.mem a) sz v s).cpu = s.cpu))

/-! ### CPU: data movement -/

/-- MOVE in its three sizes and all its modes: the value read at the source is what the destination gets, with the std
flags of it (R240). -/
def Obligations.Move : Prop :=
  ∀ (dst src : EA) (s : State),
    let effect : Size → State → Prop := fun sz t =>
      let v := readEA src sz s
      let l := locEA dst sz v.2
      OnlyCcr (writeLoc l.1 sz v.1 l.2) t ∧ StdFlags v.1 s.ccr t.ccr ∧ MemKept (l.1.bytes sz) s t
    (∃ t, exec (.moveB dst src) s = .next t ∧ effect .b t) ∧
    (∃ t, exec (.moveW dst src) s = .next t ∧ effect .w t) ∧
    (∃ t, exec (.moveL dst src) s = .next t ∧ effect .l t)

/-- MOVEQ, SWAP and EXT: the register's new value and the std flags of the result. EXG in its three forms swaps all 32
bits of two registers; every other register, the flags and memory keep. Also the words that encode them (R242, R248,
R249, R277). -/
def Obligations.RegisterMoves : Prop :=
  (∀ (r : Fin 8) (d : Byte) (s : State),
     (∃ t, exec (.moveq r d) s = .next t ∧ (t.dreg r).toInt = d.toInt ∧ StdFlags (t.dreg r) s.ccr t.ccr ∧
       OnlyDregCcr r s t ∧ MemKept [] s t) ∧
     (∃ t, exec (.swap r) s = .next t ∧
       (t.dreg r).toNat = (s.dreg r).toNat % 2 ^ 16 * 2 ^ 16 + (s.dreg r).toNat / 2 ^ 16 ∧
       StdFlags (t.dreg r) s.ccr t.ccr ∧ OnlyDregCcr r s t ∧ MemKept [] s t) ∧
     (∃ t, exec (.extW r) s = .next t ∧ (t.dregAt .w r).toInt = (s.dregAt .b r).toInt ∧
       KeepsHigh .w (s.dreg r) (t.dreg r) ∧ StdFlags (t.dregAt .w r) s.ccr t.ccr ∧ OnlyDregCcr r s t ∧
       MemKept [] s t) ∧
     (∃ t, exec (.extL r) s = .next t ∧ (t.dreg r).toInt = (s.dregAt .w r).toInt ∧
       StdFlags (t.dreg r) s.ccr t.ccr ∧ OnlyDregCcr r s t ∧ MemKept [] s t)) ∧
  (∀ (x y : Fin 8) (s : State),
     (∃ t, exec (.exgDD x y) s = .next t ∧ t.dreg x = s.dreg y ∧ t.dreg y = s.dreg x ∧
       (∀ k, k ≠ x ∧ k ≠ y → t.dreg k = s.dreg k) ∧ (∀ k, t.areg k = s.areg k) ∧ OnlyCpu s t ∧
       t.cpu.sr = s.cpu.sr ∧ t.cpu.pc = s.cpu.pc ∧ t.cpu.run = s.cpu.run ∧ MemKept [] s t) ∧
     (∃ t, exec (.exgAA x y) s = .next t ∧ t.areg x = s.areg y ∧ t.areg y = s.areg x ∧
       (∀ k, k ≠ x ∧ k ≠ y → t.areg k = s.areg k) ∧ (∀ k, t.dreg k = s.dreg k) ∧ OnlyCpu s t ∧
       t.cpu.sr = s.cpu.sr ∧ t.cpu.pc = s.cpu.pc ∧ t.cpu.run = s.cpu.run ∧ MemKept [] s t) ∧
     (∃ t, exec (.exgDA x y) s = .next t ∧ t.dreg x = s.areg y ∧ t.areg y = s.dreg x ∧
       (∀ k, k ≠ x → t.dreg k = s.dreg k) ∧ (∀ k, k ≠ y → t.areg k = s.areg k) ∧ OnlyCpu s t ∧
       t.cpu.sr = s.cpu.sr ∧ t.cpu.pc = s.cpu.pc ∧ t.cpu.run = s.cpu.run ∧ MemKept [] s t)) ∧
  (∀ (x y : Fin 8) (d : Byte),
     decode .cpu (BitVec.ofNat 16 (0x7000 + x * 512 + d.toNat)) = .ok (.moveq x d) ∧
     decode .cpu (BitVec.ofNat 16 (0x4840 + x)) = .ok (.swap x) ∧
     decode .cpu (BitVec.ofNat 16 (0x4880 + x)) = .ok (.extW x) ∧
     decode .cpu (BitVec.ofNat 16 (0x48C0 + x)) = .ok (.extL x) ∧
     decode .cpu (BitVec.ofNat 16 (0xC140 + x * 512 + y)) = .ok (.exgDD x y) ∧
     decode .cpu (BitVec.ofNat 16 (0xC148 + x * 512 + y)) = .ok (.exgAA x y) ∧
     decode .cpu (BitVec.ofNat 16 (0xC188 + x * 512 + y)) = .ok (.exgDA x y))

namespace Sys2Proof.Machine

/-- Bits of a MOVEM mask below bit `i`: how many operands come before its own (R179). -/
def maskRank (mask : Half) (i : Nat) : Nat := ((List.range i).filter fun k => mask.getLsbD k).length

end Sys2Proof.Machine

/-- MOVEM from memory: the registers of the mask, in the order D0 to D7, A0 to A7, take successive operands, words
with their sign; the others keep, but that `(An)+` leaves its register after the last operand, which overrides a
loaded value (R179, R244). Said for the default devices, whose reads change nothing. -/
def Obligations.MovemLoad : Prop :=
  ∀ (sz : LongSize) (ea : EA) (s : State), s.defaultDevices →
    let m := fetch16 .cpu s
    let l := addrEA ea m.2
    let operand : Long → State → Nat → Long := fun a w i =>
      signed32 sz (memRead .cpu sz.toSize (a + BitVec.ofNat 32 (sz.toSize.bytes * maskRank m.1 i)) w).1
    (∀ r, ea = .postinc r → ∃ t, exec (.movemEaRegs sz ea) s = .next t ∧
      (t.areg r).toNat = ((s.areg r).toNat + sz.toSize.bytes * maskRank m.1 16) % 2 ^ 32 ∧
      (∀ i, i < 16 → i ≠ r.val + 8 → movemReg i t =
        if m.1.getLsbD i then operand (s.areg r) m.2 i else movemReg i s) ∧
      t = { m.2 with cpu := t.cpu } ∧ t.cpu.sr = s.cpu.sr ∧ t.cpu.pc = m.2.cpu.pc ∧ MemKept [] s t) ∧
    ((∀ r, ea ≠ .postinc r) → ∃ t, exec (.movemEaRegs sz ea) s = .next t ∧
      (∀ i, i < 16 → movemReg i t = if m.1.getLsbD i then operand l.1 l.2 i else movemReg i l.2) ∧
      t = { l.2 with cpu := t.cpu } ∧ t.cpu.sr = s.cpu.sr ∧ t.cpu.pc = l.2.cpu.pc ∧ MemKept [] s t)

/-- MOVEM to memory: the registers of the mask are stored in successive operands, upward from the address, or downward
from `An` in the reverse order with `An` left at the last; only those bytes of memory and that register change (R179,
R243). Said where the operands lie in main RAM. -/
def Obligations.MovemStore : Prop :=
  ∀ (sz : LongSize) (ea : EA) (s : State), s.mem.wf = true →
    let m := fetch16 .cpu s
    let n := sz.toSize.bytes
    let len := n * maskRank m.1 16
    (∀ r, ea = .predec r → (s.areg r).toNat % 2 = 0 → len ≤ (s.areg r).toNat → (s.areg r).toNat ≤ 0x200000 →
      ∃ t, exec (.movemRegsEa sz ea) s = .next t ∧
        (∀ i, i < 16 → m.1.getLsbD i = true →
          t.mem.readAt sz.toSize ((s.areg r).toNat - n * (maskRank m.1 i + 1)) = (movemReg (15 - i) s).setWidth _) ∧
        (∀ a, a < (s.areg r).toNat - len ∨ (s.areg r).toNat ≤ a → t.mem.read a = s.mem.read a) ∧
        (t.areg r).toNat = (s.areg r).toNat - len ∧ OnlyAreg r (m.2.setMem t.mem) t) ∧
    ((∀ r, ea ≠ .predec r) →
      let l := addrEA ea m.2
      let a := l.1.toNat
      a % 2 = 0 → a + len ≤ 0x200000 → l.2.mem = s.mem ∧
      ∃ t, exec (.movemRegsEa sz ea) s = .next t ∧
        (∀ i, i < 16 → m.1.getLsbD i = true →
          t.mem.readAt sz.toSize (a + n * maskRank m.1 i) = (movemReg i l.2).setWidth _) ∧
        (∀ b, b < a ∨ a + len ≤ b → t.mem.read b = s.mem.read b) ∧ t = l.2.setMem t.mem)

/-- MOVEP: the bytes of a data register, most significant first, at every second address, in both directions; no flag
and no other byte changes (R245). The load is said for the default devices, the store where the bytes lie in main RAM.
-/
def Obligations.Movep : Prop :=
  (∀ (r a : Fin 8) (s : State), s.defaultDevices →
     let d := fetch16 .cpu s
     let byte : Nat → Nat := fun k =>
       (readByte .cpu (s.areg a + d.1.signExtend 32 + BitVec.ofNat 32 (2 * k)) d.2).1.toNat
     (∃ t, exec (.movep r .memToReg .l a) s = .next t ∧
       (t.dreg r).toNat = byte 0 * 2 ^ 24 + byte 1 * 2 ^ 16 + byte 2 * 2 ^ 8 + byte 3 ∧ OnlyDreg r d.2 t ∧
       t.cpu.sr = s.cpu.sr ∧ MemKept [] s t) ∧
     (∃ t, exec (.movep r .memToReg .w a) s = .next t ∧
       (t.dreg r).toNat = (s.dreg r).toNat / 2 ^ 16 * 2 ^ 16 + byte 0 * 2 ^ 8 + byte 1 ∧ OnlyDreg r d.2 t ∧
       t.cpu.sr = s.cpu.sr ∧ MemKept [] s t)) ∧
  (∀ (r a : Fin 8) (s : State), s.mem.wf = true →
     let d := fetch16 .cpu s
     let x := (s.areg a + d.1.signExtend 32).toNat
     x + 7 ≤ 0x200000 →
     (∃ t, exec (.movep r .regToMem .l a) s = .next t ∧
       (∀ k, k < 4 → (t.mem.read (x + 2 * k)).toNat = (s.dreg r).toNat / 2 ^ (8 * (3 - k)) % 256) ∧
       MemSameOutside [x, x + 2, x + 4, x + 6] s t ∧ t = d.2.setMem t.mem) ∧
     (∃ t, exec (.movep r .regToMem .w a) s = .next t ∧
       (∀ k, k < 2 → (t.mem.read (x + 2 * k)).toNat = (s.dreg r).toNat / 2 ^ (8 * (1 - k)) % 256) ∧
       MemSameOutside [x, x + 2] s t ∧ t = d.2.setMem t.mem))

/-- LINK and UNLK in closed form, the stack pointer itself as the frame register included; no flag changes; and the
words that encode them (R250, R251). -/
def Obligations.LinkUnlk : Prop :=
  ∀ (r : Fin 8) (s : State),
    let d := fetch16 .cpu s
    let sp := s.areg 7 - 4
    let v := readLong .cpu (s.areg r) (s.setAreg 7 (s.areg r))
    (∃ t, exec (.link r) s = .next t ∧
      t = ((writeLong .cpu sp (if r = 7 then sp else s.areg r) (d.2.setAreg 7 sp)).setAreg r sp).setAreg 7
        (sp + d.1.signExtend 32) ∧
      t.areg 7 = sp + d.1.signExtend 32 ∧ (r ≠ 7 → t.areg r = sp) ∧ t.cpu.sr = s.cpu.sr ∧
      MemKept (accessBytes .cpu .l sp) s t) ∧
    (∃ t, exec (.unlk r) s = .next t ∧ t.areg 7 = (if r = 7 then v.1 + 4 else s.areg r + 4) ∧
      (r ≠ 7 → t.areg r = v.1) ∧ t = (v.2.setAreg r (t.areg r)).setAreg 7 (t.areg 7) ∧ t.cpu.sr = s.cpu.sr ∧
      MemKept [] s t) ∧
    decode .cpu (BitVec.ofNat 16 (0x4E50 + r)) = .ok (.link r) ∧
    decode .cpu (BitVec.ofNat 16 (0x4E58 + r)) = .ok (.unlk r)

/-! ### CPU: arithmetic -/

/-- ADD and SUB in both directions, ADDI, SUBI, ADDQ, SUBQ: the sum or difference modulo 2^n goes to the destination,
X N Z V C are those of the operation; on an address register ADDQ and SUBQ work in 32 bits and change no flag (R260,
R261, R263, R264, R266, R268, R269). -/
def Obligations.AddSubFamily : Prop :=
  (∀ (r : Fin 8) (sz : Size) (ea : EA) (q : BitVec 3) (s : State),
     (∃ t, exec (.addEaDn r sz ea) s = .next t ∧
       Added (readEA ea sz s).1 (s.dregAt sz r) false (t.dregAt sz r) t.ccr ∧
       (t.ccr.z = true ↔ (t.dregAt sz r).toNat = 0) ∧ KeepsHigh sz (s.dreg r) (t.dreg r) ∧
       OnlyDregCcr r (readEA ea sz s).2 t ∧ MemKept [] s t) ∧
     (∃ t res, exec (.addDnEa r sz ea) s = .next t ∧ Added (s.dregAt sz r) (readEA ea sz s).1 false res t.ccr ∧
       (t.ccr.z = true ↔ res.toNat = 0) ∧ Rewrites ea sz s t res) ∧
     (let w := fetchImm sz s
      ∃ t res, exec (.addi sz ea) s = .next t ∧ Added w.1 (readEA ea sz w.2).1 false res t.ccr ∧
       (t.ccr.z = true ↔ res.toNat = 0) ∧ Rewrites ea sz w.2 t res) ∧
     (let k : Nat := if q = 0 then 8 else q.toNat
      (∀ a, ea = .an a → ∃ t, exec (.addq q sz ea) s = .next t ∧ (t.areg a).toNat = ((s.areg a).toNat + k) % 2 ^ 32 ∧
        OnlyAreg a s t ∧ t.cpu.sr = s.cpu.sr ∧ MemKept [] s t) ∧
      ((∀ a, ea ≠ .an a) → ∃ t res, exec (.addq q sz ea) s = .next t ∧
        Added (BitVec.ofNat sz.bits k) (readEA ea sz s).1 false res t.ccr ∧ (t.ccr.z = true ↔ res.toNat = 0) ∧
        Rewrites ea sz s t res))) ∧
  (∀ (r : Fin 8) (sz : Size) (ea : EA) (q : BitVec 3) (s : State),
     (∃ t, exec (.subEaDn r sz ea) s = .next t ∧
       Subtracted (readEA ea sz s).1 (s.dregAt sz r) false (t.dregAt sz r) t.ccr ∧ t.ccr.x = t.ccr.c ∧
       (t.ccr.z = true ↔ (t.dregAt sz r).toNat = 0) ∧ KeepsHigh sz (s.dreg r) (t.dreg r) ∧
       OnlyDregCcr r (readEA ea sz s).2 t ∧ MemKept [] s t) ∧
     (∃ t res, exec (.subDnEa r sz ea) s = .next t ∧ Subtracted (s.dregAt sz r) (readEA ea sz s).1 false res t.ccr ∧
       t.ccr.x = t.ccr.c ∧ (t.ccr.z = true ↔ res.toNat = 0) ∧ Rewrites ea sz s t res) ∧
     (let w := fetchImm sz s
      ∃ t res, exec (.subi sz ea) s = .next t ∧ Subtracted w.1 (readEA ea sz w.2).1 false res t.ccr ∧
       t.ccr.x = t.ccr.c ∧ (t.ccr.z = true ↔ res.toNat = 0) ∧ Rewrites ea sz w.2 t res) ∧
     (let k : Nat := if q = 0 then 8 else q.toNat
      (∀ a, ea = .an a → ∃ t, exec (.subq q sz ea) s = .next t ∧
        (t.areg a).toNat = ((s.areg a).toNat + (2 ^ 32 - k)) % 2 ^ 32 ∧
        OnlyAreg a s t ∧ t.cpu.sr = s.cpu.sr ∧ MemKept [] s t) ∧
      ((∀ a, ea ≠ .an a) → ∃ t res, exec (.subq q sz ea) s = .next t ∧
        Subtracted (BitVec.ofNat sz.bits k) (readEA ea sz s).1 false res t.ccr ∧ t.ccr.x = t.ccr.c ∧
        (t.ccr.z = true ↔ res.toNat = 0) ∧ Rewrites ea sz s t res)))

/-- MOVEA, LEA, PEA, ADDA and SUBA: all 32 bits of the address register, a word with its sign, arithmetic on the
register as the source's mode left it; LEA and PEA use the operand's address without touching it, PEA pushes it,
computed before the push; no flag changes (R236, R241, R246, R247, R262, R267). -/
def Obligations.AddressMoves : Prop :=
  (∀ (r : Fin 8) (ea : EA) (s : State),
     (∃ t, exec (.moveaW r ea) s = .next t ∧ (t.areg r).toInt = (readEA ea .w s).1.toInt ∧
       OnlyAreg r (readEA ea .w s).2 t ∧ t.cpu.sr = s.cpu.sr ∧ MemKept [] s t) ∧
     (∃ t, exec (.moveaL r ea) s = .next t ∧ t.areg r = (readEA ea .l s).1 ∧
       OnlyAreg r (readEA ea .l s).2 t ∧ t.cpu.sr = s.cpu.sr ∧ MemKept [] s t)) ∧
  (∀ (r : Fin 8) (ea : EA) (s : State) (a : Long), (locEA ea .l s).1 = .mem a →
     let w := (locEA ea .l s).2
     (∃ t, exec (.lea r ea) s = .next t ∧ t.areg r = a ∧ OnlyAreg r w t ∧ t.cpu.sr = s.cpu.sr ∧ t.mem = s.mem) ∧
     (∃ t, exec (.pea ea) s = .next t ∧ t.areg 7 = w.areg 7 - 4 ∧
       t = writeLong .cpu (w.areg 7 - 4) a (w.setAreg 7 (w.areg 7 - 4)) ∧ t.cpu.sr = s.cpu.sr ∧
       MemKept (accessBytes .cpu .l (w.areg 7 - 4)) s t)) ∧
  (∀ (r : Fin 8) (ea : EA) (s : State),
     let w := readEA ea .w s
     let l := readEA ea .l s
     (∃ t, exec (.addaW r ea) s = .next t ∧
       ((t.areg r).toNat : Int) = ((w.2.areg r).toNat + w.1.toInt) % 2 ^ 32 ∧ OnlyAreg r w.2 t ∧
       t.cpu.sr = s.cpu.sr ∧ MemKept [] s t) ∧
     (∃ t, exec (.addaL r ea) s = .next t ∧
       ((t.areg r).toNat : Int) = ((l.2.areg r).toNat + l.1.toInt) % 2 ^ 32 ∧ OnlyAreg r l.2 t ∧
       t.cpu.sr = s.cpu.sr ∧ MemKept [] s t) ∧
     (∃ t, exec (.subaW r ea) s = .next t ∧
       ((t.areg r).toNat : Int) = ((w.2.areg r).toNat - w.1.toInt) % 2 ^ 32 ∧ OnlyAreg r w.2 t ∧
       t.cpu.sr = s.cpu.sr ∧ MemKept [] s t) ∧
     (∃ t, exec (.subaL r ea) s = .next t ∧
       ((t.areg r).toNat : Int) = ((l.2.areg r).toNat - l.1.toInt) % 2 ^ 32 ∧ OnlyAreg r l.2 t ∧
       t.cpu.sr = s.cpu.sr ∧ MemKept [] s t))

/-- ADDX and SUBX in both forms, NEG and NEGX: X is the carry in of the extended ones, whose Z is only ever cleared;
in the memory form the source is predecremented and read first (R265, R270, R275, R276). -/
def Obligations.ExtendedAndNegate : Prop :=
  ∀ (x y : Fin 8) (sz : Size) (ea : EA) (s : State),
    (∃ t, exec (.addx x sz .regs y) s = .next t ∧
      Added (s.dregAt sz y) (s.dregAt sz x) s.ccr.x (t.dregAt sz x) t.ccr ∧
      (t.ccr.z = true ↔ s.ccr.z = true ∧ (t.dregAt sz x).toNat = 0) ∧ KeepsHigh sz (s.dreg x) (t.dreg x) ∧
      OnlyDregCcr x s t ∧ MemKept [] s t) ∧
    (∃ t, exec (.subx x sz .regs y) s = .next t ∧
      Subtracted (s.dregAt sz y) (s.dregAt sz x) s.ccr.x (t.dregAt sz x) t.ccr ∧ t.ccr.x = t.ccr.c ∧
      (t.ccr.z = true ↔ s.ccr.z = true ∧ (t.dregAt sz x).toNat = 0) ∧ KeepsHigh sz (s.dreg x) (t.dreg x) ∧
      OnlyDregCcr x s t ∧ MemKept [] s t) ∧
    (let v := readEA (.predec y) sz s
     let d := readEA (.predec x) sz v.2
     (∃ t res, exec (.addx x sz .predec y) s = .next t ∧ Added v.1 d.1 s.ccr.x res t.ccr ∧
       (t.ccr.z = true ↔ s.ccr.z = true ∧ res.toNat = 0) ∧ Rewrites (.predec x) sz v.2 t res) ∧
     (∃ t res, exec (.subx x sz .predec y) s = .next t ∧ Subtracted v.1 d.1 s.ccr.x res t.ccr ∧
       t.ccr.x = t.ccr.c ∧ (t.ccr.z = true ↔ s.ccr.z = true ∧ res.toNat = 0) ∧ Rewrites (.predec x) sz v.2 t res)) ∧
    (let d := (readEA ea sz s).1
     (∃ t res, exec (.neg sz ea) s = .next t ∧ (res.toNat + d.toNat) % 2 ^ sz.bits = 0 ∧
       (t.ccr.c = true ↔ d.toNat ≠ 0) ∧ t.ccr.x = t.ccr.c ∧ (t.ccr.v = true ↔ d.toNat = 2 ^ (sz.bits - 1)) ∧
       NZ res t.ccr ∧ Rewrites ea sz s t res) ∧
     (∃ t res, exec (.negx sz ea) s = .next t ∧ (res.toNat + d.toNat + s.ccr.x.toNat) % 2 ^ sz.bits = 0 ∧
       (t.ccr.c = true ↔ d.toNat ≠ 0 ∨ s.ccr.x = true) ∧ t.ccr.x = t.ccr.c ∧
       t.ccr.v = (d.msb && res.msb) ∧ t.ccr.n = res.msb ∧
       (t.ccr.z = true ↔ s.ccr.z = true ∧ res.toNat = 0) ∧ Rewrites ea sz s t res))

/-- CMP, CMPA, CMPI, CMPM write nothing but N Z V C, those of destination minus source, at 32 bits for CMPA; X keeps
(R271 to R274). -/
def Obligations.CompareFamily : Prop :=
  ∀ (r x y : Fin 8) (sz : Size) (ea : EA) (s : State),
    let compares : (n : Nat) → BitVec n → BitVec n → State → State → Prop := fun n src d w t =>
      (∃ res : BitVec n, Subtracted src d false res t.ccr ∧ (t.ccr.z = true ↔ res.toNat = 0)) ∧
      t.ccr.x = s.ccr.x ∧ OnlyCcr w t ∧ MemKept [] s t
    let v := readEA ea sz s
    let i := fetchImm sz s
    let d := readEA ea sz i.2
    let my := readEA (.postinc y) sz s
    let mx := readEA (.postinc x) sz my.2
    (∃ t, exec (.cmp r sz ea) s = .next t ∧ compares _ v.1 (s.dregAt sz r) v.2 t) ∧
    (∃ t, exec (.cmpi sz ea) s = .next t ∧ compares _ i.1 d.1 d.2 t) ∧
    (∃ t, exec (.cmpm x sz y) s = .next t ∧ compares _ my.1 mx.1 mx.2 t) ∧
    (∃ t, exec (.cmpaW r ea) s = .next t ∧
      compares 32 ((readEA ea .w s).1.signExtend 32) ((readEA ea .w s).2.areg r) (readEA ea .w s).2 t) ∧
    (∃ t, exec (.cmpaL r ea) s = .next t ∧
      compares 32 (readEA ea .l s).1 ((readEA ea .l s).2.areg r) (readEA ea .l s).2 t)

/-- MULU and MULS: the exact product fills the register. DIVU and DIVS by a divisor that is not zero: quotient and
remainder by the division identity, the signed remainder with the sign of the dividend; where the quotient does not
fit a word V is set, C cleared and the register keeps, N and Z being any value. A zero divisor takes vector 5 with the
saved pc after the instruction, no flag and no data register changed (R278 to R281). -/
def Obligations.MultiplyDivide : Prop :=
  (∀ (r : Fin 8) (ea : EA) (s : State),
     let v := readEA ea .w s
     (∃ t, exec (.mulu r ea) s = .next t ∧ (t.dreg r).toNat = v.1.toNat * (s.dregAt .w r).toNat ∧
       StdFlags (t.dreg r) s.ccr t.ccr ∧ OnlyDregCcr r v.2 t ∧ MemKept [] s t) ∧
     (∃ t, exec (.muls r ea) s = .next t ∧ (t.dreg r).toInt = v.1.toInt * (s.dregAt .w r).toInt ∧
       StdFlags (t.dreg r) s.ccr t.ccr ∧ OnlyDregCcr r v.2 t ∧ MemKept [] s t)) ∧
  (∀ (r : Fin 8) (ea : EA) (s : State),
     let v := readEA ea .w s
     let m : Nat := v.1.toNat
     let d := (s.dreg r).toNat
     m ≠ 0 → ∃ t, exec (.divu r ea) s = .next t ∧ OnlyDregCcr r v.2 t ∧ MemKept [] s t ∧ t.ccr.x = s.ccr.x ∧
       t.ccr.c = false ∧ (t.ccr.v = true ↔ 0x10000 * m ≤ d) ∧
       (d < 0x10000 * m → ∃ q rem, q < 0x10000 ∧ rem < m ∧ d = q * m + rem ∧
         (t.dreg r).toNat = rem * 2 ^ 16 + q ∧ (t.ccr.n = true ↔ 0x8000 ≤ q) ∧ (t.ccr.z = true ↔ q = 0)) ∧
       (0x10000 * m ≤ d → t.dreg r = s.dreg r)) ∧
  (∀ (r : Fin 8) (ea : EA) (s : State),
     let v := readEA ea .w s
     let m : Int := v.1.toInt
     let d : Int := (s.dreg r).toInt
     m ≠ 0 → ∃ t, exec (.divs r ea) s = .next t ∧ OnlyDregCcr r v.2 t ∧ MemKept [] s t ∧ t.ccr.x = s.ccr.x ∧
       t.ccr.c = false ∧
       ∃ q rem : Int, d = q * m + rem ∧ rem.natAbs < m.natAbs ∧ (0 < rem → 0 < d) ∧ (rem < 0 → d < 0) ∧
         (t.ccr.v = true ↔ ¬ FitsSigned 16 q) ∧
         (FitsSigned 16 q → ((t.dreg r).setWidth 16).toInt = q ∧ ((t.dreg r).extractLsb' 16 16).toInt = rem ∧
           (t.ccr.n = true ↔ q < 0) ∧ (t.ccr.z = true ↔ q = 0)) ∧
         (¬ FitsSigned 16 q → t.dreg r = s.dreg r)) ∧
  (∀ (r : Fin 8) (ea : EA) (s : State),
     let v := readEA ea .w s
     v.1.toNat = 0 →
       (∃ t, exec (.divu r ea) s = .next t ∧ ExceptionTaken (.vector 5) v.2.cpu.pc v.2 t) ∧
       (∃ t, exec (.divs r ea) s = .next t ∧ ExceptionTaken (.vector 5) v.2.cpu.pc v.2 t))

/-- ABCD, SBCD and NBCD on operands that hold two decimal digits are decimal arithmetic modulo 100, the carry or
borrow in C and X, Z only ever cleared, N bit 7, V any value (R283 to R285). -/
def Obligations.DecimalArithmetic : Prop :=
  ∀ (x y : Fin 8) (ea : EA) (s : State),
    let flags : Byte → Nat → State → Prop := fun res c t =>
      (t.ccr.c = true ↔ c = 1) ∧ t.ccr.x = t.ccr.c ∧ (t.ccr.z = true ↔ s.ccr.z = true ∧ res.toNat = 0) ∧
      t.ccr.n = res.msb
    let sum : Byte → Byte → Byte → State → Prop := fun src d res t => isBcd src → isBcd d → isBcd res ∧
      ∃ c, bcdValue d + bcdValue src + s.ccr.x.toNat = 100 * c + bcdValue res ∧ flags res c t
    let difference : Byte → Byte → Byte → State → Prop := fun src d res t => isBcd src → isBcd d → isBcd res ∧
      ∃ c, bcdValue d + 100 * c = bcdValue src + s.ccr.x.toNat + bcdValue res ∧ flags res c t
    let v := readEA (.predec y) .b s
    let d := readEA (.predec x) .b v.2
    (∃ t, exec (.abcd x .regs y) s = .next t ∧ sum (s.dregAt .b y) (s.dregAt .b x) (t.dregAt .b x) t ∧
      KeepsHigh .b (s.dreg x) (t.dreg x) ∧ OnlyDregCcr x s t ∧ MemKept [] s t) ∧
    (∃ t, exec (.sbcd x .regs y) s = .next t ∧ difference (s.dregAt .b y) (s.dregAt .b x) (t.dregAt .b x) t ∧
      KeepsHigh .b (s.dreg x) (t.dreg x) ∧ OnlyDregCcr x s t ∧ MemKept [] s t) ∧
    (∃ t res, exec (.abcd x .predec y) s = .next t ∧ sum v.1 d.1 res t ∧ Rewrites (.predec x) .b v.2 t res) ∧
    (∃ t res, exec (.sbcd x .predec y) s = .next t ∧ difference v.1 d.1 res t ∧ Rewrites (.predec x) .b v.2 t res) ∧
    (∃ t res, exec (.nbcd ea) s = .next t ∧ difference (readEA ea .b s).1 0 res t ∧ Rewrites ea .b s t res)

/-! ### CPU: logic, shifts, bits -/

/-- AND, OR, EOR and their immediate forms, NOT: each bit of the result, the std flags, nothing else changed (R300 to
R307). -/
def Obligations.LogicFamily : Prop :=
  ∀ (r : Fin 8) (sz : Size) (ea : EA) (s : State),
    let bitwise : (Bool → Bool → Bool) → BitVec sz.bits → BitVec sz.bits → BitVec sz.bits → Prop := fun op d src res =>
      ∀ k, k < sz.bits → res.getLsbD k = op (d.getLsbD k) (src.getLsbD k)
    let toReg : (Bool → Bool → Bool) → State → Prop := fun op t =>
      bitwise op (s.dregAt sz r) (readEA ea sz s).1 (t.dregAt sz r) ∧ KeepsHigh sz (s.dreg r) (t.dreg r) ∧
      StdFlags (t.dregAt sz r) s.ccr t.ccr ∧ OnlyDregCcr r (readEA ea sz s).2 t ∧ MemKept [] s t
    let toEa : (Bool → Bool → Bool) → BitVec sz.bits → State → State → Prop := fun op src w t =>
      ∃ res, bitwise op (readEA ea sz w).1 src res ∧ StdFlags res s.ccr t.ccr ∧ Rewrites ea sz w t res
    let i := fetchImm sz s
    (∃ t, exec (.andEaDn r sz ea) s = .next t ∧ toReg (· && ·) t) ∧
    (∃ t, exec (.orEaDn r sz ea) s = .next t ∧ toReg (· || ·) t) ∧
    (∃ t, exec (.andDnEa r sz ea) s = .next t ∧ toEa (· && ·) (s.dregAt sz r) s t) ∧
    (∃ t, exec (.orDnEa r sz ea) s = .next t ∧ toEa (· || ·) (s.dregAt sz r) s t) ∧
    (∃ t, exec (.eor r sz ea) s = .next t ∧ toEa (· ^^ ·) (s.dregAt sz r) s t) ∧
    (∃ t, exec (.andi sz ea) s = .next t ∧ toEa (· && ·) i.1 i.2 t) ∧
    (∃ t, exec (.ori sz ea) s = .next t ∧ toEa (· || ·) i.1 i.2 t) ∧
    (∃ t, exec (.eori sz ea) s = .next t ∧ toEa (· ^^ ·) i.1 i.2 t) ∧
    (∃ t, exec (.notEa sz ea) s = .next t ∧ toEa (fun b _ => !b) 0 s t)

namespace Sys2Proof.Machine

/-- An effect of a shift or rotate by `c` on an operand, its result and the flags, N and Z of the result included:
what a shift statement says of each of the eight. -/
def ShiftLaw (law : (n : Nat) → Nat → BitVec n → BitVec n → Ccr → Ccr → Prop) (reg : ShiftCount → Size → Fin 8 → Instr)
    (mem : EA → Instr) : Prop :=
  ∀ (count : ShiftCount) (sz : Size) (r : Fin 8) (ea : EA) (s : State),
    let c : Nat :=
      match count with
      | .imm q => if q = 0 then 8 else q.toNat
      | .reg k => (s.dreg k).toNat % 64
    (∃ t, exec (reg count sz r) s = .next t ∧ law sz.bits c (s.dregAt sz r) (t.dregAt sz r) s.ccr t.ccr ∧
      NZ (t.dregAt sz r) t.ccr ∧ KeepsHigh sz (s.dreg r) (t.dreg r) ∧ OnlyDregCcr r s t ∧ MemKept [] s t) ∧
    (∃ t res, exec (mem ea) s = .next t ∧ law 16 1 (readEA ea .w s).1 res s.ccr t.ccr ∧ NZ res t.ccr ∧
      Rewrites ea .w s t res)

end Sys2Proof.Machine

/-- ASL, LSL, ASR and LSR by any count, in register and memory form: the product by 2^c modulo 2^n or the quotient
rounded down, C and X the last bit out, X kept by a count of 0; V is 0, but for ASL says that the signed product does
not fit, that is that the most significant bit changed (R310 to R314). -/
def Obligations.Shifts : Prop :=
  (let out : (n : Nat) → Nat → BitVec n → Ccr → Ccr → Prop := fun n c v old f =>
     f.c = (decide (0 < c) && decide (c ≤ n) && v.getLsbD (n - c)) ∧ f.x = (if c = 0 then old.x else f.c)
   ShiftLaw (fun n c v res old f => res.toNat = v.toNat * 2 ^ c % 2 ^ n ∧ out n c v old f ∧
     (f.v = true ↔ ¬ FitsSigned n (v.toInt * 2 ^ c))) .aslDn .aslEa ∧
   ShiftLaw (fun n c v res old f => res.toNat = v.toNat * 2 ^ c % 2 ^ n ∧ out n c v old f ∧ f.v = false) .lslDn .lslEa) ∧
  (ShiftLaw (fun n c v res old f => res.toInt = v.toInt / 2 ^ c ∧
     f.c = (decide (0 < c) && v.getLsbD (min (c - 1) (n - 1))) ∧ f.x = (if c = 0 then old.x else f.c) ∧ f.v = false)
     .asrDn .asrEa ∧
   ShiftLaw (fun _ c v res old f => res.toNat = v.toNat / 2 ^ c ∧ f.c = (decide (0 < c) && v.getLsbD (c - 1)) ∧
     f.x = (if c = 0 then old.x else f.c) ∧ f.v = false) .lsrDn .lsrEa)

/-- ROL and ROR by any count: each bit moves by the count modulo n, C is the bit that came round last, 0 for a count
of 0, X keeps. ROXL and ROXR rotate the n + 1 bits of X and the operand, C is X after, for a count of 0 too. V is 0
(R310, R315 to R318). -/
def Obligations.RotateFamily : Prop :=
  (ShiftLaw (fun n c v res old f => (∀ k, k < n → res.getLsbD ((k + c) % n) = v.getLsbD k) ∧
     f.c = (decide (0 < c) && res.getLsbD 0) ∧ f.x = old.x ∧ f.v = false) .rolDn .rolEa ∧
   ShiftLaw (fun n c v res old f => (∀ k, k < n → res.getLsbD k = v.getLsbD ((k + c) % n)) ∧
     f.c = (decide (0 < c) && res.msb) ∧ f.x = old.x ∧ f.v = false) .rorDn .rorEa) ∧
  (ShiftLaw (fun n c v res old f =>
     (∀ k, k < n + 1 → (BitVec.cons f.x res).getLsbD ((k + c) % (n + 1)) = (BitVec.cons old.x v).getLsbD k) ∧
     f.c = f.x ∧ f.v = false) .roxlDn .roxlEa ∧
   ShiftLaw (fun n c v res old f =>
     (∀ k, k < n + 1 → (BitVec.cons f.x res).getLsbD k = (BitVec.cons old.x v).getLsbD ((k + c) % (n + 1))) ∧
     f.c = f.x ∧ f.v = false) .roxrDn .roxrEa)

/-- BTST, BCHG, BCLR, BSET with a static or dynamic bit number: the bit used is the number modulo 32 on a data
register and modulo 8 in memory; Z says that it was 0, no other flag changes, only that bit of the operand can change
(R320 to R324). -/
def Obligations.BitInstructions : Prop :=
  ∀ (r : Fin 8) (ea : EA) (s : State),
    let sz : Size :=
      match ea with
      | .dn _ => .l
      | _ => .b
    let flag : Nat → BitVec sz.bits → State → Prop := fun b v t =>
      t.ccr = { s.ccr with z := !v.getLsbD (b % sz.bits) }
    let changes : (Bool → Bool) → Nat → State → State → Prop := fun op b w t =>
      let v := (readEA ea sz w).1
      ∃ res : BitVec sz.bits, flag b v t ∧ Rewrites ea sz w t res ∧
        ∀ k, k < sz.bits → res.getLsbD k = if k = b % sz.bits then op (v.getLsbD k) else v.getLsbD k
    let i := fetch16 .cpu s
    let n := i.1.toNat % 256
    let d := (s.dreg r).toNat
    (∃ t, exec (.btstImm ea) s = .next t ∧ flag n (readEA ea sz i.2).1 t ∧ OnlyCcr (readEA ea sz i.2).2 t ∧
      MemKept [] s t) ∧
    (∃ t, exec (.btstReg r ea) s = .next t ∧ flag d (readEA ea sz s).1 t ∧ OnlyCcr (readEA ea sz s).2 t ∧
      MemKept [] s t) ∧
    (∃ t, exec (.bchgImm ea) s = .next t ∧ changes (fun b => !b) n i.2 t) ∧
    (∃ t, exec (.bchgReg r ea) s = .next t ∧ changes (fun b => !b) d s t) ∧
    (∃ t, exec (.bclrImm ea) s = .next t ∧ changes (fun _ => false) n i.2 t) ∧
    (∃ t, exec (.bclrReg r ea) s = .next t ∧ changes (fun _ => false) d s t) ∧
    (∃ t, exec (.bsetImm ea) s = .next t ∧ changes (fun _ => true) n i.2 t) ∧
    (∃ t, exec (.bsetReg r ea) s = .next t ∧ changes (fun _ => true) d s t)

/-- CLR writes zero without reading and sets the std flags of zero; TST writes nothing and sets those of the operand;
TAS sets the top bit of the byte and the std flags of its old value; Scc writes all ones or zero by its condition,
without reading and with no flag (R252, R282, R333, R334). -/
def Obligations.ClrTstTasScc : Prop :=
  (∀ (sz : Size) (ea : EA) (s : State),
     (∃ t, exec (.clr sz ea) s = .next t ∧ Overwrites ea sz s t 0 ∧
       t.ccr = { x := s.ccr.x, n := false, z := true, v := false, c := false }) ∧
     (∃ t, exec (.tst sz ea) s = .next t ∧ OnlyCcr (readEA ea sz s).2 t ∧
       StdFlags (readEA ea sz s).1 s.ccr t.ccr ∧ MemKept [] s t)) ∧
  (∀ (c : Cond) (ea : EA) (s : State),
     let v := (readEA ea .b s).1
     (∃ t res, exec (.tas ea) s = .next t ∧ res.toNat = v.toNat % 128 + 128 ∧ StdFlags v s.ccr t.ccr ∧
       Rewrites ea .b s t res) ∧
     (∃ t res, exec (.scc c ea) s = .next t ∧ res.toNat = (if condHolds c s.ccr then 255 else 0) ∧ t.ccr = s.ccr ∧
       Overwrites ea .b s t res))

/-- The overflow of R260 in its second form, by the signs of the operands and the result; and the sixteen conditions
after a comparison of d with s are the unsigned and signed orders of the two (R182, R260, R271). -/
def Obligations.FlagLaws : Prop :=
  (∀ (n : Nat) (s d : BitVec n) (x : Bool), 0 < n →
     ((addFlags s d x).v = true ↔ s.msb = d.msb ∧ (addResult s d x).msb ≠ d.msb) ∧
     ((subFlags s d x).v = true ↔ s.msb ≠ d.msb ∧ (subResult s d x).msb ≠ d.msb) ∧
     ((addFlags s d x).n = (addResult s d x).msb) ∧ ((subFlags s d x).n = (subResult s d x).msb) ∧
     (addFlags s d x).x = (addFlags s d x).c ∧ (subFlags s d x).x = (subFlags s d x).c ∧
     ∀ old, (cmpFlags s d old).x = old.x ∧ (cmpFlags s d old).v = (subFlags s d false).v ∧
       (cmpFlags s d old).c = (subFlags s d false).c) ∧
  (∀ (n : Nat) (s d : BitVec n) (old : Ccr), 0 < n →
     let f := cmpFlags s d old
     (condHolds .eq f = true ↔ d = s) ∧ (condHolds .ne f = true ↔ d ≠ s) ∧
     (condHolds .hi f = true ↔ s.toNat < d.toNat) ∧ (condHolds .ls f = true ↔ d.toNat ≤ s.toNat) ∧
     (condHolds .cc f = true ↔ s.toNat ≤ d.toNat) ∧ (condHolds .cs f = true ↔ d.toNat < s.toNat) ∧
     (condHolds .ge f = true ↔ s.toInt ≤ d.toInt) ∧ (condHolds .lt f = true ↔ d.toInt < s.toInt) ∧
     (condHolds .gt f = true ↔ s.toInt < d.toInt) ∧ (condHolds .le f = true ↔ d.toInt ≤ s.toInt) ∧
     condHolds .t f = true ∧ condHolds .f f = false ∧ condHolds .vc f = !f.v ∧ condHolds .vs f = f.v ∧
     condHolds .pl f = !f.n ∧ condHolds .mi f = f.n)

/-! ### CPU: control flow -/

namespace Sys2Proof.Machine

/-- The address a displacement from the word after the operation word leads to, its bit 0 dropped (R23, R340). -/
def IsTarget (base : Long) (disp : Int) (pc : Long) : Prop :=
  (pc.toNat : Int) = ((base.toNat : Int) + disp) % 2 ^ 32 / 2 * 2

end Sys2Proof.Machine

/-- Bcc, BRA and BSR: a displacement byte of 0 takes the next word, fetched whether or not the branch is taken; BSR
pushes the address of the next instruction. DBcc: the low word of the register counts down while the condition is
false and branches unless it was 0; the upper word and the flags keep (R340 to R343). -/
def Obligations.Branches : Prop :=
  (∀ (c : Cond) (disp : Byte) (s : State),
     let f := fetch16 .cpu s
     let after := if disp = 0 then f.2 else s
     let d : Int := if disp = 0 then f.1.toInt else disp.toInt
     (∃ t, exec (.bcc c disp) s = .next t ∧ OnlyPc after t ∧
       (condHolds c s.ccr = true → IsTarget s.cpu.pc d t.cpu.pc) ∧
       (condHolds c s.ccr = false → t = after) ∧ MemKept [] s t) ∧
     (∃ t, exec (.bra disp) s = .next t ∧ OnlyPc after t ∧ IsTarget s.cpu.pc d t.cpu.pc ∧ MemKept [] s t) ∧
     (∃ t, exec (.bsr disp) s = .next t ∧ t.areg 7 = s.areg 7 - 4 ∧ IsTarget s.cpu.pc d t.cpu.pc ∧
       OnlyPc (writeLong .cpu (s.areg 7 - 4) after.cpu.pc (after.setAreg 7 (s.areg 7 - 4))) t ∧
       MemKept (accessBytes .cpu .l (s.areg 7 - 4)) s t)) ∧
  (∀ (c : Cond) (r : Fin 8) (s : State),
     let f := fetch16 .cpu s
     let n := (s.dreg r).toNat % 2 ^ 16
     ∃ t, exec (.dbcc c r) s = .next t ∧ MemKept [] s t ∧ t.cpu.sr = s.cpu.sr ∧
       (condHolds c s.ccr = true → t = f.2) ∧
       (condHolds c s.ccr = false → OnlyPc (f.2.setDreg r (t.dreg r)) t ∧
         (t.dreg r).toNat = (s.dreg r).toNat / 2 ^ 16 * 2 ^ 16 + (n + 0xFFFF) % 2 ^ 16 ∧
         (n ≠ 0 → IsTarget s.cpu.pc f.1.toInt t.cpu.pc) ∧ (n = 0 → t.cpu.pc = f.2.cpu.pc)))

/-- JMP and JSR: the target computed before the push, the address of the next instruction pushed on the active stack.
RTS and RTR pop what they return to; RTR takes the five condition codes and leaves the upper byte of SR; NOP does
nothing (R344 to R347, R349). The returns are said for the default devices. -/
def Obligations.JumpsAndReturns : Prop :=
  (∀ (ea : EA) (s : State) (a : Long), (locEA ea .l s).1 = .mem a →
     let w := (locEA ea .l s).2
     (∃ t, exec (.jmp ea) s = .next t ∧ OnlyPc w t ∧ t.cpu.pc.toNat = a.toNat / 2 * 2 ∧ MemKept [] s t) ∧
     (∃ t, exec (.jsr ea) s = .next t ∧ t.areg 7 = w.areg 7 - 4 ∧ t.cpu.pc.toNat = a.toNat / 2 * 2 ∧
       OnlyPc (writeLong .cpu (w.areg 7 - 4) w.cpu.pc (w.setAreg 7 (w.areg 7 - 4))) t ∧
       MemKept (accessBytes .cpu .l (w.areg 7 - 4)) s t)) ∧
  (∀ (s : State), s.defaultDevices →
     let sp := s.areg 7
     (∃ t, exec .rts s = .next t ∧ t.cpu.pc.toNat = (readLong .cpu sp s).1.toNat / 2 * 2 ∧
       OnlyPc (s.setAreg 7 (sp + 4)) t ∧ MemKept [] s t) ∧
     (∃ t, exec .rtr s = .next t ∧ t.cpu.pc.toNat = (readLong .cpu (sp + 2) s).1.toNat / 2 * 2 ∧
       OnlyPc ((s.setAreg 7 (sp + 6)).setCcr t.ccr) t ∧
       t.cpu.sr.toHalf.toNat = s.cpu.sr.toHalf.toNat / 32 * 32 + (readWord .cpu sp s).1.toNat % 32 ∧
       MemKept [] s t) ∧
     exec .nop s = .next s)

/-! ### CPU: exceptions and the status register -/

/-- The exception sequence and the interrupt's: SR, the two pushes, the vector, the run state, and everything it
leaves (R614). -/
def Obligations.ExceptionSequence : Prop :=
  ∀ (k : ExcKind) (savedPc : Long) (s : State), ExceptionTaken k savedPc s (takeException k savedPc s)

/-- TRAP, ILLEGAL, line A and line F take their exception always, with the saved pc their rules name; TRAPV when V is
set; and the words that encode these. CHK: within its bounds only N Z V C change, to any value; else it takes vector 6
with N telling the side, X kept (R350 to R355). -/
def Obligations.TrapInstructions : Prop :=
  (∀ (v : BitVec 4) (d : BitVec 12) (s : State),
     (∃ t, exec (.trap v) s = .next t ∧ ExceptionTaken (.vector (BitVec.ofNat 8 (32 + v.toNat))) s.cpu.pc s t) ∧
     (∃ t, exec .illegal s = .next t ∧ ExceptionTaken (.vector 4) (s.cpu.pc - 2) s t) ∧
     (∃ t, exec (.lineA d) s = .next t ∧ ExceptionTaken (.vector 10) (s.cpu.pc - 2) s t) ∧
     (∃ t, exec (.lineF d) s = .next t ∧ ExceptionTaken (.vector 11) (s.cpu.pc - 2) s t) ∧
     (s.cpu.sr.ccr.v = true → ∃ t, exec .trapv s = .next t ∧ ExceptionTaken (.vector 7) s.cpu.pc s t) ∧
     (s.cpu.sr.ccr.v = false → exec .trapv s = .next s) ∧
     decode .cpu (BitVec.ofNat 16 (0x4E40 + v.toNat)) = .ok (.trap v) ∧ decode .cpu 0x4AFC = .ok .illegal ∧
     decode .cpu (BitVec.ofNat 16 (0xA000 + d.toNat)) = .ok (.lineA d) ∧
     decode .cpu (BitVec.ofNat 16 (0xF000 + d.toNat)) = .ok (.lineF d) ∧ decode .cpu 0x4E76 = .ok .trapv) ∧
  (∀ (r : Fin 8) (ea : EA) (s : State),
     let b := readEA ea .w s
     let d := (s.dregAt .w r).toInt
     (0 ≤ d ∧ d ≤ b.1.toInt → ∃ t, exec (.chk r ea) s = .next t ∧ OnlyCcr b.2 t ∧ t.ccr.x = s.ccr.x ∧
       MemKept [] s t) ∧
     (d < 0 ∨ b.1.toInt < d → ∃ t w, exec (.chk r ea) s = .next t ∧ OnlyCcr b.2 w ∧ w.ccr.x = s.ccr.x ∧
       (w.ccr.n = true ↔ d < 0) ∧ ExceptionTaken (.vector 6) w.cpu.pc w t))

/-- The privileged instructions in user mode take vector 8 with the saved pc at their own operation word and do
nothing else. In supervisor mode: a write of SR keeps the bits of 0xA71F, USP moves, RESET has no effect, STOP stops,
RTE takes SR from the word at SSP and pc from the long above it before the mode switches (R348, R362, R363, R365,
R367, R369 to R371, R640). RTE is said for the default devices. -/
def Obligations.PrivilegedInstructions : Prop :=
  (∀ (i : Instr) (ea : EA) (r : Fin 8) (s : State), s.cpu.sr.s = false →
     i ∈ [Instr.rte, .moveEaSr ea, .moveAnUsp r, .moveUspAn r, .andiToSr, .oriToSr, .eoriToSr, .reset, .stop] →
     ∃ t, exec i s = .next t ∧ ExceptionTaken (.vector 8) (s.cpu.pc - 2) s t) ∧
  (∀ (ea : EA) (r : Fin 8) (s : State), s.cpu.sr.s = true →
     let f := fetch16 .cpu s
     let writesSr : Half → State → State → Prop := fun v w t =>
       t.cpu.sr.toHalf = v &&& 0xA71F ∧ t = w.setSr t.cpu.sr ∧ MemKept [] s t
     (∃ t, exec (.moveEaSr ea) s = .next t ∧ writesSr (readEA ea .w s).1 (readEA ea .w s).2 t) ∧
     (∃ t, exec .andiToSr s = .next t ∧ writesSr (s.cpu.sr.toHalf &&& f.1) f.2 t) ∧
     (∃ t, exec .oriToSr s = .next t ∧ writesSr (s.cpu.sr.toHalf ||| f.1) f.2 t) ∧
     (∃ t, exec .eoriToSr s = .next t ∧ writesSr (s.cpu.sr.toHalf ^^^ f.1) f.2 t) ∧
     (∃ t, exec .stop s = .next t ∧ writesSr f.1 (f.2.setRun .stopped) t) ∧
     (∃ t, exec (.moveAnUsp r) s = .next t ∧ t = { s with cpu := { s.cpu with usp := s.areg r } } ∧ MemKept [] s t) ∧
     (∃ t, exec (.moveUspAn r) s = .next t ∧ OnlyAreg r s t ∧ t.areg r = s.cpu.usp ∧ MemKept [] s t) ∧
     exec .reset s = .next s) ∧
  (∀ (s : State), s.cpu.sr.s = true → s.defaultDevices →
     ∃ t, exec .rte s = .next t ∧ t.cpu.sr.toHalf = (readWord .cpu s.cpu.ssp s).1 &&& 0xA71F ∧
       t.cpu.pc.toNat = (readLong .cpu (s.cpu.ssp + 2) s).1.toNat / 2 * 2 ∧ t.cpu.ssp = s.cpu.ssp + 6 ∧
       t = { s with cpu := { s.cpu with sr := t.cpu.sr, pc := t.cpu.pc, ssp := t.cpu.ssp } } ∧ MemKept [] s t)

/-- RTE undoes an exception (R617): after the entry to a handler, RTE restores SR, SSP and the saved pc, and every
data and address register is as before the exception. -/
def Obligations.ExceptionRoundTrip : Prop :=
  ∀ (k : ExcKind) (savedPc : Long) (s : State), s.mem.wf = true → s.defaultDevices → FrameInRam s →
    ∃ t, exec .rte (takeException k savedPc s) = .next t ∧ t.cpu.sr = s.cpu.sr ∧ t.cpu.ssp = s.cpu.ssp ∧
      t.cpu.pc = evenAddr savedPc ∧ t.cpu.d = s.cpu.d ∧ t.cpu.a = s.cpu.a ∧ t.cpu.usp = s.cpu.usp ∧
      (∀ a, a + 6 < s.cpu.ssp.toNat ∨ s.cpu.ssp.toNat ≤ a → t.mem.read a = s.mem.read a)

/-- The instructions on CCR take bits 4:0 and leave the rest of SR; MOVE SR stores the whole of SR with its absent
bits 0 and is not privileged (R360, R361, R364, R366, R368). -/
def Obligations.CcrInstructions : Prop :=
  ∀ (ea : EA) (s : State),
    let f := fetch16 .cpu s
    let old := s.cpu.sr.toHalf
    let writes : Nat → State → State → Prop := fun low w t =>
      t.cpu.sr.toHalf.toNat = old.toNat / 32 * 32 + low ∧ OnlyCcr w t ∧ MemKept [] s t
    (∃ t, exec (.moveEaCcr ea) s = .next t ∧ writes ((readEA ea .w s).1.toNat % 32) (readEA ea .w s).2 t) ∧
    (∃ t, exec .andiToCcr s = .next t ∧ writes ((old &&& f.1).toNat % 32) f.2 t) ∧
    (∃ t, exec .oriToCcr s = .next t ∧ writes ((old ||| f.1).toNat % 32) f.2 t) ∧
    (∃ t, exec .eoriToCcr s = .next t ∧ writes ((old ^^^ f.1).toNat % 32) f.2 t) ∧
    (∃ t res, exec (.moveSrEa ea) s = .next t ∧ res = old ∧ t.cpu.sr = s.cpu.sr ∧ old &&& 0xA71F = old ∧
      Overwrites ea .w s t res)

/-- In user mode an instruction of the CPU leaves T, S and I, or has taken an exception into supervisor mode with T
clear; SR as a whole is written by nothing else (R24, R640). -/
def Obligations.UserModeConfined : Prop :=
  ∀ (i : Instr) (s t : State), i.role = .cpu → s.cpu.sr.s = false → exec i s = .next t →
    t.cpu.sr.i = s.cpu.sr.i ∧
    ((t.cpu.sr.s = false ∧ t.cpu.sr.t = s.cpu.sr.t ∧ t.cpu.ssp = s.cpu.ssp ∧ t.cpu.run = s.cpu.run) ∨
     (t.cpu.sr.s = true ∧ t.cpu.sr.t = false ∧ t.cpu.ssp = s.cpu.ssp - 6 ∧ t.cpu.run = .running))

/-! ### RISC units -/

/-- AND, OR, XOR, NOT, BTST, BSET, BCLR: each bit of the result, Z and N of it (Z alone for BTST, which writes
nothing), C kept; and the words that encode them (R410 to R416). -/
def Obligations.RiscLogic : Prop :=
  ∀ (u : Coproc) (m n : Fin 32) (q : BitVec 5) (s : State),
    let a := s.rreg u n
    let b := s.rreg u m
    let bits : (Nat → Bool) → State → Prop := fun f t => (∀ k, k < 32 → (t.rreg u n).getLsbD k = f k) ∧
      RiscFlags u (t.rreg u n) (s.risc u).c t ∧ OnlyRregFlags u n s t
    (∃ t, exec (.rAnd u m n) s = .next t ∧ bits (fun k => a.getLsbD k && b.getLsbD k) t) ∧
    (∃ t, exec (.rOr u m n) s = .next t ∧ bits (fun k => a.getLsbD k || b.getLsbD k) t) ∧
    (∃ t, exec (.rXor u m n) s = .next t ∧ bits (fun k => a.getLsbD k ^^ b.getLsbD k) t) ∧
    (∃ t, exec (.rNot u n) s = .next t ∧ bits (fun k => !a.getLsbD k) t) ∧
    (∃ t, exec (.rBset u q n) s = .next t ∧ bits (fun k => a.getLsbD k || decide (k = q.toNat)) t) ∧
    (∃ t, exec (.rBclr u q n) s = .next t ∧ bits (fun k => a.getLsbD k && !decide (k = q.toNat)) t) ∧
    (∃ t, exec (.rBtst u q n) s = .next t ∧ (t.risc u).z = !a.getLsbD q.toNat ∧ (t.risc u).n = (s.risc u).n ∧
      (t.risc u).c = (s.risc u).c ∧ OnlyRflags u s t) ∧
    Decodes u 9 m n (.rAnd u m n) ∧ Decodes u 10 m n (.rOr u m n) ∧ Decodes u 11 m n (.rXor u m n) ∧
    Decodes u 12 q.toNat n (.rNot u n) ∧ Decodes u 13 q.toNat n (.rBtst u q n) ∧
    Decodes u 14 q.toNat n (.rBset u q n) ∧ Decodes u 15 q.toNat n (.rBclr u q n)

/-- MULT, IMULT, IMULTN, IMACN, RESMAC, ABS: the exact product of the low words, the accumulator modulo 2^32 on the
GPU and 2^40 on the DSP, the absolute value with the sign in C. DIV: the unsigned quotient, with 16 fraction bits when
DIV_OFFSET is 1, and the remainder in REMAIN; a zero divisor gives all ones and leaves REMAIN (R417 to R424). -/
def Obligations.RiscMultiplyDivide : Prop :=
  (∀ (u : Coproc) (m n : Fin 32) (s : State),
     let a := s.rreg u n
     let b := s.rreg u m
     let p : Int := (a.setWidth 16).toInt * (b.setWidth 16).toInt
     let zn : State → Prop := fun t => RiscFlags u (t.rreg u n) (s.risc u).c t ∧ OnlyRregFlags u n s t
     let onlyAcc : State → State → Prop := fun w t =>
       t = { w with
             gpu := { w.gpu with acc := t.gpu.acc },
             dsp := { w.dsp with acc := t.dsp.acc } } ∧
       (u = .gpu → t.dsp = w.dsp) ∧ (u = .dsp → t.gpu = w.gpu)
     (∃ t, exec (.rMult u m n) s = .next t ∧ (t.rreg u n).toNat = a.toNat % 2 ^ 16 * (b.toNat % 2 ^ 16) ∧ zn t) ∧
     (∃ t, exec (.rImult u m n) s = .next t ∧ (t.rreg u n).toInt = p ∧ zn t) ∧
     (∃ t, exec (.rImultn u m n) s = .next t ∧ (u = .gpu → t.gpu.acc.toInt = p) ∧ (u = .dsp → t.dsp.acc.toInt = p) ∧
       ((t.risc u).z = true ↔ p = 0) ∧ ((t.risc u).n = true ↔ p < 0) ∧ (t.risc u).c = (s.risc u).c ∧
       onlyAcc (s.setZNC u (t.risc u).z (t.risc u).n (t.risc u).c) t) ∧
     (∃ t, exec (.rImacn u m n) s = .next t ∧ onlyAcc s t ∧
       (u = .gpu → (t.gpu.acc.toInt - (s.gpu.acc.toInt + p)) % 2 ^ 32 = 0) ∧
       (u = .dsp → (t.dsp.acc.toInt - (s.dsp.acc.toInt + p)) % 2 ^ 40 = 0)) ∧
     (∃ t, exec (.rResmac u n) s = .next t ∧ OnlyRreg u n s t ∧
       (u = .gpu → t.rreg u n = s.gpu.acc) ∧ (u = .dsp → (t.rreg u n).toNat = s.dsp.acc.toNat % 2 ^ 32)) ∧
     (∃ t, exec (.rAbs u n) s = .next t ∧ OnlyRregFlags u n s t ∧ ((t.risc u).c = true ↔ a.toInt < 0) ∧
       (t.rreg u n).toNat = a.toInt.natAbs ∧ ((t.risc u).z = true ↔ a.toNat = 0) ∧
       ((t.risc u).n = true ↔ a.toNat = 2 ^ 31))) ∧
  (∀ (u : Coproc) (m n : Fin 32) (s : State),
     let a := (s.rreg u n).toNat
     let b := (s.rreg u m).toNat
     let d := if (s.risc u).divOffset then a * 2 ^ 16 else a
     ∃ t, exec (.rDiv u m n) s = .next t ∧
       (b = 0 → t.rreg u n = 0xFFFFFFFF ∧ OnlyRreg u n s t) ∧
       (b ≠ 0 → ∃ q, d = q * b + (t.risc u).remain.toNat ∧ (t.risc u).remain.toNat < b ∧
         (t.rreg u n).toNat = q % 2 ^ 32 ∧
         t = (s.setRisc u { s.risc u with remain := (t.risc u).remain }).setRreg u n (t.rreg u n)))

/-- SH, SHA, SHLQ, SHRQ, SHARQ: a left shift is the product modulo 2^32, a right shift the quotient rounded down,
unsigned or signed, by any count; C is bit 31 or bit 0 of the value before. ROR and RORQ move each bit down by the
count modulo 32, C is bit 31 before. Also the words that encode them (R425 to R431). -/
def Obligations.RiscShiftsRotates : Prop :=
  (∀ (u : Coproc) (m n : Fin 32) (q : BitVec 5) (s : State),
     let v := s.rreg u n
     let k := (s.rreg u m).toInt
     let q32 : Nat := if q = 0 then 32 else q.toNat
     let flags : Bool → State → Prop := fun c t => RiscFlags u (t.rreg u n) c t ∧ OnlyRregFlags u n s t
     (∃ t, exec (.rSh u m n) s = .next t ∧ flags (if k < 0 then v.msb else v.getLsbD 0) t ∧
       (t.rreg u n).toNat = if k < 0 then v.toNat * 2 ^ k.natAbs % 2 ^ 32 else v.toNat / 2 ^ k.natAbs) ∧
     (∃ t, exec (.rSha u m n) s = .next t ∧ flags (if k < 0 then v.msb else v.getLsbD 0) t ∧
       (k < 0 → (t.rreg u n).toNat = v.toNat * 2 ^ k.natAbs % 2 ^ 32) ∧
       (0 ≤ k → (t.rreg u n).toInt = v.toInt / 2 ^ k.natAbs)) ∧
     (∃ t, exec (.rShlq u q n) s = .next t ∧ flags v.msb t ∧
       (t.rreg u n).toNat = v.toNat * 2 ^ (32 - q.toNat) % 2 ^ 32) ∧
     (∃ t, exec (.rShrq u q n) s = .next t ∧ flags (v.getLsbD 0) t ∧ (t.rreg u n).toNat = v.toNat / 2 ^ q32) ∧
     (∃ t, exec (.rSharq u q n) s = .next t ∧ flags (v.getLsbD 0) t ∧ (t.rreg u n).toInt = v.toInt / 2 ^ q32)) ∧
  (∀ (u : Coproc) (m n : Fin 32) (q : BitVec 5) (s : State),
     let v := s.rreg u n
     let rotated : Nat → State → Prop := fun k t =>
       (∀ j, j < 32 → (t.rreg u n).getLsbD j = v.getLsbD ((j + k) % 32)) ∧ RiscFlags u (t.rreg u n) v.msb t ∧
       OnlyRregFlags u n s t
     (∃ t, exec (.rRor u m n) s = .next t ∧ rotated (s.rreg u m).toNat t) ∧
     (∃ t, exec (.rRorq u q n) s = .next t ∧ rotated q.toNat t)) ∧
  (∀ (u : Coproc) (m n : Fin 32) (q : BitVec 5),
     Decodes u 23 m n (.rSh u m n) ∧ Decodes u 24 q.toNat n (.rShlq u q n) ∧ Decodes u 25 q.toNat n (.rShrq u q n) ∧
     Decodes u 26 m n (.rSha u m n) ∧ Decodes u 27 q.toNat n (.rSharq u q n) ∧ Decodes u 28 m n (.rRor u m n) ∧
     Decodes u 29 q.toNat n (.rRorq u q n))

/-- ADD, ADDC, ADDQ, ADDQT, SUB, SUBC, SUBQ, SUBQT, NEG: sums and differences modulo 2^32 with Z, N and the carry or
borrow in C; the T forms change no flag. CMP and CMPQ write only the flags of the difference. Also the words that
encode them (R401 to R409, R432, R433). -/
def Obligations.RiscAddSubCompare : Prop :=
  (∀ (u : Coproc) (m n : Fin 32) (q : BitVec 5) (s : State),
     let a := (s.rreg u n).toNat
     let b := (s.rreg u m).toNat
     let c := (s.risc u).c.toNat
     let k : Nat := if q = 0 then 32 else q.toNat
     let sum : Nat → State → Prop := fun e t => (t.rreg u n).toNat = e % 2 ^ 32 ∧
       RiscFlags u (t.rreg u n) (decide (2 ^ 32 ≤ e)) t ∧ OnlyRregFlags u n s t
     let difference : Nat → Nat → State → Prop := fun x y t => ((t.rreg u n).toNat : Int) = ((x : Int) - y) % 2 ^ 32 ∧
       RiscFlags u (t.rreg u n) (decide (x < y)) t ∧ OnlyRregFlags u n s t
     (∃ t, exec (.rAdd u m n) s = .next t ∧ sum (a + b) t) ∧
     (∃ t, exec (.rAddc u m n) s = .next t ∧ sum (a + b + c) t) ∧
     (∃ t, exec (.rAddq u q n) s = .next t ∧ sum (a + k) t) ∧
     (∃ t, exec (.rAddqt u q n) s = .next t ∧ (t.rreg u n).toNat = (a + k) % 2 ^ 32 ∧ OnlyRreg u n s t) ∧
     (∃ t, exec (.rSub u m n) s = .next t ∧ difference a b t) ∧
     (∃ t, exec (.rSubc u m n) s = .next t ∧ difference a (b + c) t) ∧
     (∃ t, exec (.rSubq u q n) s = .next t ∧ difference a k t) ∧
     (∃ t, exec (.rSubqt u q n) s = .next t ∧ ((t.rreg u n).toNat : Int) = ((a : Int) - k) % 2 ^ 32 ∧
       OnlyRreg u n s t) ∧
     (∃ t, exec (.rNeg u n) s = .next t ∧ difference 0 a t)) ∧
  (∀ (u : Coproc) (m n : Fin 32) (q : BitVec 5) (s : State),
     let v := s.rreg u n
     let compared : Nat → State → Prop := fun b t =>
       ((t.risc u).z = true ↔ v.toNat = b) ∧
       ((t.risc u).n = true ↔ 2 ^ 31 ≤ (((v.toNat : Int) - b) % 2 ^ 32)) ∧
       ((t.risc u).c = true ↔ v.toNat < b) ∧ OnlyRflags u s t
     (∃ t, exec (.rCmp u m n) s = .next t ∧ compared (s.rreg u m).toNat t) ∧
     (∃ t, exec (.rCmpq u q n) s = .next t ∧ compared (if q.toNat < 16 then q.toNat else 2 ^ 32 - 32 + q.toNat) t)) ∧
  (∀ (u : Coproc) (m n : Fin 32) (q : BitVec 5),
     Decodes u 0 m n (.rAdd u m n) ∧ Decodes u 1 m n (.rAddc u m n) ∧ Decodes u 2 q.toNat n (.rAddq u q n) ∧
     Decodes u 3 q.toNat n (.rAddqt u q n) ∧ Decodes u 4 m n (.rSub u m n) ∧ Decodes u 5 m n (.rSubc u m n) ∧
     Decodes u 6 q.toNat n (.rSubq u q n) ∧ Decodes u 7 q.toNat n (.rSubqt u q n) ∧
     Decodes u 8 q.toNat n (.rNeg u n) ∧ Decodes u 30 m n (.rCmp u m n) ∧ Decodes u 31 q.toNat n (.rCmpq u q n))

/-- MOVE, MOVEQ, MOVETA, MOVEFA, MOVEI, MOVE PC, NOP and the reserved opcode 62: the register of the active or the
other bank that is written, no flag, nothing else; MOVEI moves `pc` past its two words, the low half first (R451 to
R456, R495, R519). -/
def Obligations.RiscMoves : Prop :=
  ∀ (u : Coproc) (m n : Fin 32) (q : BitVec 5) (s : State),
    let lo := fetch16 (.risc u) s
    let hi := fetch16 (.risc u) lo.2
    (∃ t, exec (.rMove u m n) s = .next t ∧ t.rreg u n = s.rreg u m ∧ OnlyRreg u n s t) ∧
    (∃ t, exec (.rMoveq u q n) s = .next t ∧ (t.rreg u n).toNat = q.toNat ∧ OnlyRreg u n s t) ∧
    (∃ t, exec (.rMoveta u m n) s = .next t ∧ t.altReg u n = s.rreg u m ∧ t = s.setAltReg u n (t.altReg u n) ∧
      ∀ k, t.rreg u k = s.rreg u k) ∧
    (∃ t, exec (.rMovefa u m n) s = .next t ∧ t.rreg u n = s.altReg u m ∧ OnlyRreg u n s t ∧
      ∀ k, t.altReg u k = s.altReg u k) ∧
    (∃ t, exec (.rMovei u n) s = .next t ∧ (t.rreg u n).toNat = hi.1.toNat * 2 ^ 16 + lo.1.toNat ∧
      OnlyRreg u n hi.2 t ∧ hi.2.mem = s.mem ∧
      ((hi.2.risc u).pc.toNat = ((s.risc u).pc.toNat / 2 * 2 + 4) % 2 ^ 32)) ∧
    (∃ t, exec (.rMovePc u n) s = .next t ∧ ((t.rreg u n).toNat + 2) % 2 ^ 32 = (s.risc u).pc.toNat ∧
      OnlyRreg u n s t) ∧
    exec (.rNop u) s = .next s ∧ exec .dReserved62 s = .next s

/-- The loads: the long at the address, or the byte or word zero-extended, which in the unit's own local memory is the
low part of the aligned long; LOADP puts the long at the lower address in HIDATA first; no flag changes (R457 to R464,
R471, R472). Said for the default devices, whose reads change nothing. -/
def Obligations.RiscLoads : Prop :=
  ∀ (u : Coproc) (m n : Fin 32) (q : BitVec 5) (s : State), s.defaultDevices →
    let a := s.rreg u m
    let k : Nat := if q = 0 then 32 else q.toNat
    let long : Long → Long := fun x => (memRead (.risc u) .l x s).1
    let loads : Nat → State → Prop := fun v t => (t.rreg u n).toNat = v ∧ OnlyRreg u n s t
    (∃ t, exec (.rLoadb u m n) s = .next t ∧ loads
      (if inLocal u a then (long a).toNat % 256 else (memRead (.risc u) .b a s).1.toNat) t) ∧
    (∃ t, exec (.rLoadw u m n) s = .next t ∧ loads
      (if inLocal u a then (long a).toNat % 65536 else (memRead (.risc u) .w a s).1.toNat) t) ∧
    (∃ t, exec (.rLoad u m n) s = .next t ∧ loads (long a).toNat t) ∧
    (∃ t, exec (.rLoadR14q u q n) s = .next t ∧ loads (long (s.rreg u 14 + BitVec.ofNat 32 (4 * k))).toNat t) ∧
    (∃ t, exec (.rLoadR15q u q n) s = .next t ∧ loads (long (s.rreg u 15 + BitVec.ofNat 32 (4 * k))).toNat t) ∧
    (∃ t, exec (.rLoadR14m u m n) s = .next t ∧ loads (long (s.rreg u 14 + a)).toNat t) ∧
    (∃ t, exec (.rLoadR15m u m n) s = .next t ∧ loads (long (s.rreg u 15 + a)).toNat t) ∧
    (u = .gpu → ∃ t, exec (.gLoadp m n) s = .next t ∧ t.gpu.hidata = long a ∧
      t.rreg u n = (memRead (.risc u) .l (a + 4) (s.setHidata (long a))).1 ∧
      OnlyRreg u n (s.setHidata (long a)) t)

/-- The stores: the bytes stored to are those of the access, and nothing but the access happens; a byte or word stored
in the unit's own local memory is a whole long with zeros above it; no flag and no register changes by the store
itself (R457, R465 to R470, R473, R474). -/
def Obligations.RiscStores : Prop :=
  ∀ (u : Coproc) (m n : Fin 32) (q : BitVec 5) (s : State),
    let a := s.rreg u m
    let v := s.rreg u n
    let k : Nat := if q = 0 then 32 else q.toNat
    let p : Role := .risc u
    let stores : Long → State → Prop := fun x t => t = memWrite p .l x v s ∧ MemKept (accessBytes p .l x) s t
    (∃ t, exec (.rStoreb u m n) s = .next t ∧
      (inLocal u a = true → t = memWrite p .l a (BitVec.ofNat 32 (v.toNat % 256)) s ∧
        MemKept (accessBytes p .l a) s t) ∧
      (inLocal u a = false → t = memWrite p .b a (v.setWidth 8) s ∧ MemKept (accessBytes p .b a) s t)) ∧
    (∃ t, exec (.rStorew u m n) s = .next t ∧
      (inLocal u a = true → t = memWrite p .l a (BitVec.ofNat 32 (v.toNat % 65536)) s ∧
        MemKept (accessBytes p .l a) s t) ∧
      (inLocal u a = false → t = memWrite p .w a (v.setWidth 16) s ∧ MemKept (accessBytes p .w a) s t)) ∧
    (∃ t, exec (.rStore u m n) s = .next t ∧ stores a t) ∧
    (∃ t, exec (.rStoreR14q u q n) s = .next t ∧ stores (s.rreg u 14 + BitVec.ofNat 32 (4 * k)) t) ∧
    (∃ t, exec (.rStoreR15q u q n) s = .next t ∧ stores (s.rreg u 15 + BitVec.ofNat 32 (4 * k)) t) ∧
    (∃ t, exec (.rStoreR14m u m n) s = .next t ∧ stores (s.rreg u 14 + a) t) ∧
    (∃ t, exec (.rStoreR15m u m n) s = .next t ∧ stores (s.rreg u 15 + a) t) ∧
    (u = .gpu → ∃ t, exec (.gStorep m n) s = .next t ∧
      t = memWrite p .l (a + 4) v (memWrite p .l a s.gpu.hidata s) ∧
      MemKept (accessBytes p .l a ++ accessBytes p .l (a + 4)) s t)

namespace Sys2Proof.Machine

/-- The condition of JUMP and JR with field `c` holds on a unit (R204). -/
def JumpTaken (u : Coproc) (c : BitVec 5) (s : State) : Prop :=
  let r := s.risc u
  let f := if c.getLsbD 4 then r.n else r.c
  ¬(c.getLsbD 0 = true ∧ r.z = true) ∧ ¬(c.getLsbD 1 = true ∧ r.z = false) ∧
    ¬(c.getLsbD 2 = true ∧ f = true) ∧ ¬(c.getLsbD 3 = true ∧ f = false)

end Sys2Proof.Machine

/-- A taken JUMP or JR runs the instruction of its delay slot in the same step, whole, before the target goes to `pc`,
whatever the slot writes there; a jump not taken does nothing; a slot that holds JUMP, JR or MOVEI is refused (R204,
R490 to R493, log 12). -/
def Obligations.JumpAndDelaySlot : Prop :=
  ∀ (u : Coproc) (m : Fin 32) (q c : BitVec 5) (s : State) (i : Instr),
    let r := s.risc u
    let taken : Prop := JumpTaken u c s
    let w := fetch16 (.risc u) (s.chargeFetched (.risc u))
    let runs : Instr → (Long → Prop) → Prop := fun j target =>
      ∃ t x t', exec i w.2 = .next t ∧ exec j s = .next t' ∧ target x ∧ t' = t.setRpc u x ∧
        (t'.risc u).pc.toNat = x.toNat / 2 * 2
    (¬ taken → exec (.rJump u m c) s = .next s ∧ exec (.rJr u q c) s = .next s) ∧
    (taken → decode (.risc u) w.1 = .ok i →
      ((∀ v a b, i ≠ .rJump v a b) ∧ (∀ v a b, i ≠ .rJr v a b) ∧ (∀ v a, i ≠ .rMovei v a) →
        runs (.rJump u m c) (fun x => x = s.rreg u m) ∧
        runs (.rJr u q c) (fun x => (x.toNat : Int) = (r.pc.toNat + 2 * q.toInt) % 2 ^ 32)) ∧
      ((∃ v a b, i = .rJump v a b) ∨ (∃ v a b, i = .rJr v a b) ∨ (∃ v a, i = .rMovei v a) →
        exec (.rJump u m c) s = .refused .jumpOrMoveiInSlot ∧ exec (.rJr u q c) s = .refused .jumpOrMoveiInSlot))

/-- SAT8, SAT16, SAT24, SAT16S, SAT32S bring the register into their range; PACK, UNPACK, MTOI and MIRROR move bits;
ADDQMOD and SUBQMOD change only the bits where MOD is 0, C of the plain sum or difference; NORMI is the count that
brings the leading one to bit 22 (R500 to R504, R506, R507, R510, R515 to R518). -/
def Obligations.RiscSpecials : Prop :=
  (∀ (n : Fin 32) (s : State),
     let g := (s.rreg .gpu n).toInt
     let d := (s.rreg .dsp n).toInt
     let top := (s.dsp.acc.extractLsb' 32 8).toInt
     let result : Coproc → Int → State → Prop := fun u r t => (t.rreg u n).toInt = r ∧
       RiscFlags u (t.rreg u n) (s.risc u).c t ∧ OnlyRregFlags u n s t
     (∃ t, exec (.gSat8 n) s = .next t ∧ result .gpu (max 0 (min g 255)) t) ∧
     (∃ t, exec (.gSat16 n) s = .next t ∧ result .gpu (max 0 (min g 65535)) t) ∧
     (∃ t, exec (.gSat24 n) s = .next t ∧ result .gpu (max 0 (min g 0xFFFFFF)) t) ∧
     (∃ t, exec (.dSat16s n) s = .next t ∧ result .dsp (max (-32768) (min d 32767)) t) ∧
     (∃ t, exec (.dSat32s n) s = .next t ∧
       result .dsp (if top < -1 then -(2 ^ 31) else if 0 < top then 2 ^ 31 - 1 else d) t)) ∧
  (∀ (u : Coproc) (m n : Fin 32) (s : State),
     let v := (s.rreg .gpu n).toNat
     let x := s.rreg u m
     (∃ t, exec (.gPack n) s = .next t ∧ OnlyRreg .gpu n s t ∧
       (t.rreg .gpu n).toNat = v / 2 ^ 22 % 16 * 2 ^ 12 + v / 2 ^ 13 % 16 * 2 ^ 8 + v % 256) ∧
     (∃ t, exec (.gUnpack n) s = .next t ∧ OnlyRreg .gpu n s t ∧
       (t.rreg .gpu n).toNat = v / 2 ^ 12 % 16 * 2 ^ 22 + v / 2 ^ 8 % 16 * 2 ^ 13 + v % 256) ∧
     (∃ t, exec (.rMtoi u m n) s = .next t ∧ RiscFlags u (t.rreg u n) (s.risc u).c t ∧ OnlyRregFlags u n s t ∧
       ∀ k, k < 32 → (t.rreg u n).getLsbD k =
         if k < 23 then x.getLsbD k else x.getLsbD (min (k + 8) 31)) ∧
     (∃ t, exec (.dMirror n) s = .next t ∧ RiscFlags .dsp (t.rreg .dsp n) (s.risc .dsp).c t ∧
       OnlyRregFlags .dsp n s t ∧ ∀ k, k < 32 → (t.rreg .dsp n).getLsbD k = (s.rreg .dsp n).getLsbD (31 - k))) ∧
  (∀ (q : BitVec 5) (n : Fin 32) (s : State),
     let v := s.rreg .dsp n
     let k : Nat := if q = 0 then 32 else q.toNat
     let merged : Long → Bool → State → Prop := fun e c t =>
       (∀ j, j < 32 → (t.rreg .dsp n).getLsbD j = if s.dsp.modulo.getLsbD j then v.getLsbD j else e.getLsbD j) ∧
       RiscFlags .dsp (t.rreg .dsp n) c t ∧ OnlyRregFlags .dsp n s t
     (∃ t, exec (.dAddqmod q n) s = .next t ∧
       merged (BitVec.ofNat 32 (v.toNat + k)) (decide (2 ^ 32 ≤ v.toNat + k)) t) ∧
     (∃ t, exec (.dSubqmod q n) s = .next t ∧
       merged (BitVec.ofInt 32 ((v.toNat : Int) - k)) (decide (v.toNat < k)) t)) ∧
  (∀ (u : Coproc) (m n : Fin 32) (s : State),
     let v := (s.rreg u m).toNat
     ∃ t, exec (.rNormi u m n) s = .next t ∧ RiscFlags u (t.rreg u n) (s.risc u).c t ∧ OnlyRregFlags u n s t ∧
       (v = 0 → (t.rreg u n).toInt = 0) ∧
       (v ≠ 0 → (2 : Int) ^ ((t.rreg u n).toInt + 22).toNat ≤ v ∧ (v : Int) < 2 ^ ((t.rreg u n).toInt + 23).toNat))

/-- MMULT: the sum of the products of the register vector, two halves to a register of the other bank with the index
modulo 32, and the matrix row or column in local memory, modulo 2^32 (R505). Said for the default devices. -/
def Obligations.MatrixMultiply : Prop :=
  ∀ (u : Coproc) (m n : Fin 32) (s : State), s.defaultDevices →
    let w := (s.risc u).mtxWidth.toNat
    let stride := if (s.risc u).matCol then 4 * w else 4
    let element : Nat → Int := fun i =>
      let g := s.altReg u (Fin.ofNat 32 (m.val + i / 2))
      (g.extractLsb' (16 * (i % 2)) 16).toInt
    let entry : Nat → Int := fun i =>
      ((memRead (.risc u) .l
        (BitVec.ofNat 32 (Config.localBase u + 4 * (s.risc u).mtxa.toNat + i * stride)) s).1.setWidth 16).toInt
    ∃ t, exec (.rMmult u m n) s = .next t ∧ RiscFlags u (t.rreg u n) (s.risc u).c t ∧ OnlyRregFlags u n s t ∧
      ((t.rreg u n).toNat : Int) = ((List.range w).map fun i => element i * entry i).sum % 2 ^ 32

/-- Whatever a CPU instruction does, by whichever device its accesses reach, it leaves the register banks,
accumulators, REMAIN, power bit and cycle counters of both units, its own cycle counter, the scheduler and the
parameters. An instruction of a unit, its delay slot included, never changes the CPU, the other unit's banks,
accumulator and REMAIN, a power bit, a cycle counter, the scheduler or the parameters (R20, R26, R30, R41 to R45,
R56). -/
def Obligations.InstructionFrames : Prop :=
  (∀ (i : Instr) (s t : State), i.role = .cpu → exec i s = .next t →
     (∀ u, (t.risc u).bank0 = (s.risc u).bank0 ∧ (t.risc u).bank1 = (s.risc u).bank1 ∧
       (t.risc u).remain = (s.risc u).remain ∧ (t.risc u).en = (s.risc u).en ∧ (t.risc u).cycles = (s.risc u).cycles) ∧
     t.gpu.acc = s.gpu.acc ∧ t.dsp.acc = s.dsp.acc ∧ t.cpu.cycles = s.cpu.cycles ∧ t.sched = s.sched ∧
     t.params = s.params) ∧
  (∀ (i : Instr) (u w : Coproc) (s t : State), i.role = .risc u → w ≠ u → exec i s = .next t →
     t.cpu = s.cpu ∧ (t.risc w).bank0 = (s.risc w).bank0 ∧ (t.risc w).bank1 = (s.risc w).bank1 ∧
     (t.risc w).remain = (s.risc w).remain ∧ (t.risc w).en = (s.risc w).en ∧ (t.risc w).cycles = (s.risc w).cycles ∧
     (t.risc u).en = (s.risc u).en ∧ (t.risc u).cycles = (s.risc u).cycles ∧
     (w = .gpu → t.gpu.acc = s.gpu.acc) ∧ (w = .dsp → t.dsp.acc = s.dsp.acc) ∧ t.sched = s.sched ∧
     t.params = s.params)

/-! ### Interrupts -/

/-- The operations of the interrupt controller: which flag each changes, that a pending line that is not enabled does
not contribute, and that enabling it afterwards makes it the delivered one. The delivered line is active, and on a
unit it has the highest index of the active ones, on the CPU the lowest; none is delivered exactly when none is active
(R600, R602, R603, R611). -/
def Obligations.InterruptController : Prop :=
  (∀ (p q : Role) (k j : Nat) (b : Bool) (s : State),
     let count : Nat := if p = .risc .dsp then 6 else 5
     ((raiseLine p k s).line q j =
       if q = p ∧ j = k ∧ k < count then { s.line p k with pending := true } else s.line q j) ∧
     ((clearLine p k s).line q j =
       if q = p ∧ j = k ∧ k < count then { s.line p k with pending := false } else s.line q j) ∧
     ((setEnabled p k b s).line q j =
       if q = p ∧ j = k ∧ k < count then { s.line p k with enabled := b } else s.line q j) ∧
     ((s.line p k).enabled = false → currentVector p (raiseLine p k s) = currentVector p s) ∧
     (k < count → currentVector p s = none →
       currentVector p (setEnabled p k true (raiseLine p k s)) = some k)) ∧
  (∀ (p : Role) (s : State),
     (∀ k, currentVector p s = some k → s.lineActive p k = true ∧
       (∀ j, s.lineActive p j = true → if p = .cpu then k ≤ j else j ≤ k)) ∧
     (currentVector p s = none ↔ ∀ j, s.lineActive p j = false))

/-- The interrupt checks. CPU: an active line and a mask of 0 or 1 deliver vector 64 with the next instruction's
address, no pending flag changed by the delivery. A unit: an active line with IMASK 0 sets IMASK, wakes the unit,
pushes the resume address less two with bank 0's R31, and goes on at the line's vector of 16 bytes, its address also
in bank 0's R30; said where the pushed long lies in a writable byte array. Else nothing happens (R606, R620, R625,
R626, R628). -/
def Obligations.InterruptDelivery : Prop :=
  (∀ (s : State),
     ((∃ k, s.lineActive .cpu k = true) ∧ s.cpu.sr.i.toNat < 2 →
       ExceptionTaken .interrupt s.cpu.pc s (cpuInterruptCheck s) ∧ (cpuInterruptCheck s).cpu.sr.i = 2 ∧
       (FrameInRam s → ∀ p j, (cpuInterruptCheck s).line p j = s.line p j)) ∧
     ((∀ k, s.lineActive .cpu k = false) ∨ 2 ≤ s.cpu.sr.i.toNat → cpuInterruptCheck s = s)) ∧
  (∀ (u : Coproc) (s : State),
     let sp := (s.risc u).bank0[31] - 4
     let t := riscInterruptCheck u s
     ((∀ k, s.lineActive (.risc u) k = false) ∨ (s.risc u).imask = true → t = s) ∧
     (∀ k, s.lineActive (.risc u) k = true → (∀ j, s.lineActive (.risc u) j = true → j ≤ k) →
       (s.risc u).imask = false → s.mem.wf = true →
       (∀ a ∈ accessBytes (.risc u) .l sp, ∃ g, regionAt a = some g ∧ g.backing = .bytes ∧ g.readable = true ∧
         g.writable = true) →
       (t.risc u).imask = true ∧ (t.risc u).go = true ∧
       (t.risc u).pc.toNat = (if u = .gpu then 0xF03000 else 0xF1B000) + 16 * k ∧
       (t.risc u).bank0[30] = (t.risc u).pc ∧ (t.risc u).bank0[31] = sp ∧
       (memRead (.risc u) .l sp t).1 = ((s.risc u).pc - 2 : Long) ∧
       (∀ n : Fin 32, n.val < 30 → (t.risc u).bank0[n] = (s.risc u).bank0[n]) ∧
       (t.risc u).bank1 = (s.risc u).bank1 ∧
       t = { s.setRisc u { s.risc u with
                           imask := true, go := true, pc := (t.risc u).pc, bank0 := (t.risc u).bank0 } with
             mem := t.mem,
             stepCycles := s.stepCycles + Config.costExc (.risc u) .interrupt } ∧
       MemSameOutside (accessBytes (.risc u) .l sp) s t))

/-! ### The step -/

namespace Sys2Proof.Machine

/-- The processor is in the eligible set of R655: the CPU unless the machine is off, a unit with `en = 1`. -/
def IsEligible (s : State) : Role → Prop
  | .cpu => s.cpu.run ≠ .off
  | .risc u => (s.risc u).en = true

/-- The place of a processor in the order in which ties are broken (R655). -/
def tieRank : Role → Nat
  | .cpu => 0
  | .risc .gpu => 1
  | .risc .dsp => 2

/-- The scheduler's choice (R655): `p` is eligible, no eligible processor has a lesser time, and those of the same
time come after it in the order CPU, GPU, DSP. Its time is then `now`. -/
def Picked (p : Role) (s : State) : Prop :=
  IsEligible s p ∧
    ∀ q, IsEligible s q → s.time p < s.time q ∨ (s.time p = s.time q ∧ tieRank p ≤ tieRank q)

/-- What the due line events of a turn leave, `p` being the processor picked: they fire before anything else of the
turn (R655). -/
def afterLines (p : Role) (s : State) : State := fireDue (s.params.lines - s.sched.line) (s.time p) s

/-- The machine's next turn is a step of role `p` at state `s`, after the line events that are due: it is on, `p` is
picked, its time is not the frame's end, and no stop is requested (R655). -/
def StepsNext (p : Role) (s : State) : Prop :=
  s.cpu.run ≠ .off ∧ Picked p s ∧ s.time p < s.params.frameBudget ∧ s.sched.stopRequested = false

end Sys2Proof.Machine

/-- A turn in which a unit is picked: the line events that are due fire, and when the word at the running unit's pc
decodes to `i`, `step` runs `exec i` with pc past the word, charges the cost and checks for interrupts; a refusal of
`exec` is the step's (R625, R651, R655). -/
def Obligations.RiscStepRunsInstruction : Prop :=
  ∀ (u : Coproc) (s : State) (i : Instr), StepsNext (.risc u) s → (s.risc u).go = true →
    let b := afterLines (.risc u) s
    decode (.risc u) (fetchWordAt (b.risc u).pc b) = .ok i →
    let s1 := { b.setRpc u ((b.risc u).pc + 2) with fetched := [fetchWordAt (b.risc u).pc b], stepCycles := 0 }
    (∀ r, exec i s1 = .refused r → step s = .refused r) ∧
    (∀ t, exec i s1 = .next t → ∃ w, step s = .next w ∧
      let e := riscInterruptCheck u
        { t with stepCycles := t.stepCycles + Config.cost (.risc u) t.fetched, fetched := [] }
      (w.risc u).cycles = (e.risc u).cycles + e.stepCycles ∧
      (u = .gpu → w.sched = { e.sched with tGpu := e.sched.tGpu + e.stepCycles * e.params.divGpu }) ∧
      (u = .dsp → w.sched = { e.sched with tDsp := e.sched.tDsp + e.stepCycles * e.params.divDsp }) ∧
      w = { e.setRisc u { e.risc u with cycles := (w.risc u).cycles } with
            sched := w.sched, fetched := [], stepCycles := 0 })

/-- A turn in which the CPU is picked: the line events that are due fire, and when the word at pc decodes to an
instruction, `step` runs `exec` of it with pc past the word, and then charges the cost, takes the trace exception if T
was set and the instruction not abandoned, and checks for interrupts. A word that selects no row takes vector 4 with
the saved pc at the word, no extension word fetched (R356, R616, R618, R650, R655). That ILLEGAL, which has a row,
counts as not abandoned is the model's reading of R616 (log 13). -/
def Obligations.CpuStepRunsInstruction : Prop :=
  (∀ (s t : State) (i : Instr), StepsNext .cpu s → s.cpu.run = .running →
     let b := afterLines .cpu s
     decode .cpu (fetchWordAt b.cpu.pc b) = .ok i →
     exec i { b with
              cpu := { b.cpu with pc := evenAddr (b.cpu.pc + 2) }, fetched := [fetchWordAt b.cpu.pc b],
              stepCycles := 0 } = .next t →
     ∃ w, step s = .next w ∧
       let c := { t with stepCycles := t.stepCycles + Config.cost .cpu t.fetched, fetched := [] }
       let traced := b.cpu.sr.t = true ∧ (∀ d, i ≠ .lineA d ∧ i ≠ .lineF d) ∧
         (isPrivileged i = true → b.cpu.sr.s = true)
       ∃ e, (traced → e = cpuInterruptCheck (takeException (.vector 9) c.cpu.pc c)) ∧
         (¬ traced → e = cpuInterruptCheck c) ∧
         w = { e with
               cpu := { e.cpu with cycles := e.cpu.cycles + e.stepCycles },
               sched := { e.sched with tCpu := e.sched.tCpu + e.stepCycles * e.params.divCpu },
               fetched := [], stepCycles := 0 }) ∧
  (∀ (s : State) (e : DecodeError), StepsNext .cpu s → s.cpu.run = .running →
     let b := afterLines .cpu s
     b.cpu.pc.getLsbD 0 = false → decode .cpu (fetchWordAt b.cpu.pc b) = .error e →
     (∀ k, b.lineActive .cpu k = false) → FrameInRam b → b.mem.wf = true →
     ∃ w t, step s = .next w ∧
       ExceptionTaken (.vector 4) b.cpu.pc { b with fetched := [fetchWordAt b.cpu.pc b], stepCycles := 0 } t ∧
       w.cpu = { t.cpu with cycles := w.cpu.cycles } ∧ w.mem = t.mem ∧ w.gpu = b.gpu ∧ w.dsp = b.dsp)

/-- An idle step, of a stopped CPU or a sleeping unit, after the line events that are due: it fetches and executes
nothing and consumes its idle cost, which goes to the cycle counter and the processor's time; then its interrupt check
runs. With no interrupt to deliver nothing else changes (R371, R652, R655). -/
def Obligations.IdleStep : Prop :=
  ∀ (u : Coproc) (s : State),
    (StepsNext .cpu s → s.cpu.run = .stopped →
      let b := afterLines .cpu s
      (let e := cpuInterruptCheck { b with fetched := [], stepCycles := b.params.idleCpu }
       step s = .next { e with
         cpu := { e.cpu with cycles := e.cpu.cycles + e.stepCycles },
         sched := { e.sched with tCpu := e.sched.tCpu + e.stepCycles * e.params.divCpu },
         fetched := [], stepCycles := 0 }) ∧
      ((∀ k, b.lineActive .cpu k = false) ∨ 2 ≤ b.cpu.sr.i.toNat →
       step s = .next { b with
         cpu := { b.cpu with cycles := b.cpu.cycles + b.params.idleCpu },
         sched := { b.sched with tCpu := b.sched.tCpu + b.params.idleCpu * b.params.divCpu },
         fetched := [], stepCycles := 0 })) ∧
    (StepsNext (.risc u) s → (s.risc u).go = false →
      let b := afterLines (.risc u) s
      ∃ w, step s = .next w ∧
        (let e := riscInterruptCheck u { b with fetched := [], stepCycles := b.params.idle (.risc u) }
         (w.risc u).cycles = (e.risc u).cycles + e.stepCycles ∧
         w.time (.risc u) = e.time (.risc u) + e.stepCycles * e.params.div (.risc u) ∧
         w = { (e.setRisc u { e.risc u with cycles := (w.risc u).cycles }).setTime (.risc u) (w.time (.risc u)) with
               fetched := [], stepCycles := 0 }) ∧
        ((∀ k, b.lineActive (.risc u) k = false) ∨ (b.risc u).imask = true →
         (w.risc u).cycles = (b.risc u).cycles + b.params.idle (.risc u) ∧
         w.time (.risc u) = b.time (.risc u) + b.params.idle (.risc u) * b.params.div (.risc u) ∧
         w = { (b.setRisc u { b.risc u with cycles := (w.risc u).cycles }).setTime (.risc u) (w.time (.risc u)) with
               fetched := [], stepCycles := 0 }))

/-- While the machine is on exactly one processor is picked. Each line event fires once when its time has come and
raises the VIDEO line when its number is VI's, no other line; said for the default devices. When the time of the
picked processor, the least of the eligible ones, has come to the frame's end, the turn fires every line event that is
left and ends the frame: the overshoot of each eligible processor is carried over, the line count starts again and the
frame clock grows by the budget. Before the frame's end a turn that finds a stop requested fires the line events that
are due, clears the request and steps no processor (R655, R656, R706). -/
def Obligations.LineAndFrameEvents : Prop :=
  (∀ s : State, s.cpu.run ≠ .off → ∃ p, Picked p s ∧ ∀ q, Picked q s → q = p) ∧
  (∀ (s : State) (t : Nat), s.defaultDevices → s.sched.line ≤ s.params.lines →
     let e := fireDue (s.params.lines - s.sched.line) t s
     s.sched.line ≤ e.sched.line ∧ e.sched.line ≤ s.params.lines ∧
     (e.sched.line < s.params.lines → t < lineTime s.params (e.sched.line + 1)) ∧
     (∀ k, s.sched.line < k → k ≤ e.sched.line → lineTime s.params k ≤ t) ∧
     ((e.line .cpu 0).pending = true ↔
       (s.line .cpu 0).pending = true ∨ (s.sched.line < s.vi.toNat ∧ s.vi.toNat ≤ e.sched.line)) ∧
     (∀ k, (e.line .cpu k).enabled = (s.line .cpu k).enabled) ∧
     e = { s with cpuLines := e.cpuLines, sched := { s.sched with line := e.sched.line } } ∧
     ∀ k, k ≠ 0 → e.line .cpu k = s.line .cpu k) ∧
  (∀ (p : Role) (s : State), s.cpu.run ≠ .off → Picked p s → s.params.frameBudget ≤ s.time p → s.defaultDevices →
     s.sched.line ≤ s.params.lines →
     let e := afterLines p s
     e.sched.line = s.params.lines ∧
     ∃ w, step s = .next w ∧ w.sched.frameClock = s.sched.frameClock + s.params.frameBudget ∧ w.sched.line = 0 ∧
       w.sched.tCpu + s.params.frameBudget = s.sched.tCpu ∧
       (∀ u, w.time (.risc u) = if (s.risc u).en then s.time (.risc u) - s.params.frameBudget else 0) ∧
       w.sched.stopRequested = s.sched.stopRequested ∧ w = { e with sched := w.sched }) ∧
  (∀ (p : Role) (s : State), s.cpu.run ≠ .off → Picked p s → s.time p < s.params.frameBudget →
     s.sched.stopRequested = true →
     let e := afterLines p s
     step s = .next { e with sched := { e.sched with stopRequested := false } })

/-- Every step keeps the invariant: memory and device storage in canonical form and within their regions, every pc
even, no more line events than lines, no instruction in progress. -/
def Obligations.StepKeepsInvariant : Prop := ∀ s t : State, Inv s → step s = .next t → Inv t

/-- The invariant holds after reset. -/
def Obligations.ResetInvariant : Prop := Inv State.reset

namespace Sys2Proof.Machine

/-- `i`, executed at `s` with `pc` past it, is a taken JUMP or JR whose delay slot, the word at `pc`, holds JUMP, JR
or MOVEI (R493). -/
def ForbiddenSlot (u : Coproc) (i : Instr) (s : State) : Prop :=
  (∃ c, ((∃ m, i = .rJump u m c) ∨ ∃ q, i = .rJr u q c) ∧ JumpTaken u c s) ∧
  ∃ j, decode (.risc u) (fetchWordAt (s.risc u).pc s) = .ok j ∧
    ((∃ v a b, j = .rJump v a b) ∨ (∃ v a b, j = .rJr v a b) ∨ (∃ v a, j = .rMovei v a))

end Sys2Proof.Machine

/-- An instruction stops in one case only: a taken JUMP or JR of a unit over JUMP, JR or MOVEI. Every other
instruction of a unit, and every CPU instruction, in every mode and with every operand, ends in a next state. So a
step stops in two cases only: while the machine is off, and when the unit that is picked is running and the word at
its pc is such a jump (R100, R493, R612, R615, R629, R705). The two refusals are the model's form of what R493 and
R705 say (logs 11 and 12). -/
def Obligations.StepNeverFails : Prop :=
  (∀ s : State, (s.cpu.run = .off → step s = .refused .machineOff) ∧
     (s.cpu.run ≠ .off → (∃ t, step s = .next t) ∨
       (step s = .refused .jumpOrMoveiInSlot ∧ ∃ u, StepsNext (.risc u) s ∧ (s.risc u).go = true ∧
         let b := afterLines (.risc u) s
         ∃ i, decode (.risc u) (fetchWordAt (b.risc u).pc b) = .ok i ∧
           ForbiddenSlot u i (b.setRpc u ((b.risc u).pc + 2))))) ∧
  (∀ (i : Instr) (s : State), i.role = .cpu → ∃ t, exec i s = .next t) ∧
  (∀ (u : Coproc) (i : Instr) (s : State), i.role = .risc u →
     (ForbiddenSlot u i s → exec i s = .refused .jumpOrMoveiInSlot) ∧
     (¬ ForbiddenSlot u i s → ∃ t, exec i s = .next t))

/-- A disabled unit is never stepped: whatever one step of the machine does, its banks, accumulator, REMAIN, power bit
and cycle counter are as before. No step changes the parameters, the life cycle or the power bits, the frame clock
moves by whole frames, the cycle counters never fall (R9, R26, R44, R45, R642, R646, R709). -/
def Obligations.DisabledUnitFrozen : Prop :=
  (∀ (u : Coproc) (s t : State), (s.risc u).en = false → step s = .next t →
     (t.risc u).en = false ∧ (t.risc u).cycles = (s.risc u).cycles ∧ (t.risc u).bank0 = (s.risc u).bank0 ∧
     (t.risc u).bank1 = (s.risc u).bank1 ∧ (t.risc u).remain = (s.risc u).remain ∧
     (u = .gpu → t.gpu.acc = s.gpu.acc) ∧ (u = .dsp → t.dsp.acc = s.dsp.acc)) ∧
  (∀ s t : State, step s = .next t → t.params = s.params ∧ t.powered = s.powered ∧
     (∀ u, (t.risc u).en = (s.risc u).en) ∧
     (t.sched.frameClock = s.sched.frameClock ∨ t.sched.frameClock = s.sched.frameClock + s.params.frameBudget) ∧
     s.cpu.cycles ≤ t.cpu.cycles ∧ ∀ u, (s.risc u).cycles ≤ (t.risc u).cycles)

/-! ### Host calls -/

namespace Sys2Proof.Machine

/-- Every value that a reset gives (R59) but SSP and `pc` of the CPU and its run state, which R703 gives. -/
def ResetValues (t : State) : Prop :=
  (∀ r, t.dreg r = 0) ∧ (∀ r : Fin 8, r.val < 7 → t.areg r = 0) ∧ t.cpu.usp = 0 ∧ t.cpu.sr.toHalf = 0x2700 ∧
  t.cpu.cycles = 0 ∧
  (∀ u, (t.risc u).bank0 = Vector.replicate 32 0 ∧ (t.risc u).bank1 = Vector.replicate 32 0 ∧
    (t.risc u).pc = BitVec.ofNat 32 (Config.localBase u) ∧ (t.risc u).z = false ∧ (t.risc u).c = false ∧
    (t.risc u).n = false ∧ (t.risc u).imask = false ∧ (t.risc u).regpage = false ∧ (t.risc u).dmaen = false ∧
    (t.risc u).go = false ∧ (t.risc u).singleStep = false ∧ (t.risc u).busHog = decide (u = .gpu) ∧
    (t.risc u).mtxWidth = 0 ∧ (t.risc u).matCol = false ∧ (t.risc u).mtxa = 0 ∧ (t.risc u).endian = 0xFFFFFFFF ∧
    (t.risc u).remain = 0 ∧ (t.risc u).divOffset = false ∧ (t.risc u).cycles = 0) ∧
  t.gpu.hidata = 0 ∧ t.gpu.acc = 0 ∧ t.dsp.modulo = 0xFFFFFFFF ∧ t.dsp.acc = 0 ∧
  (∀ p k, (t.line p k).enabled = false ∧ (t.line p k).pending = false) ∧ t.vi = 0x7FF ∧
  t.sched.frameClock = 0 ∧ (∀ p, t.time p = 0) ∧ t.sched.line = 0 ∧ t.sched.stopRequested = false ∧
  t.fetched = [] ∧ t.stepCycles = 0

end Sys2Proof.Machine

/-- What `runFrame` and `runCycles` answer, turn by turn. While the machine is off both are refused. A turn that ends
the frame answers frame ready, a turn that finds a stop requested answers paused; else the run goes on from the state
after one step, or reports the step's refusal. `runCycles(n)` has one more exit: it answers paused, after the line
events that are due, when the time has moved `n` from where it began. With parameters that meet R9 a run always ends:
neither call answers that time stands still (R655, R704 to R707, log 15). That `runCycles` tests the stop request
before its own exit is the model's choice (log 16). -/
def Obligations.RunFrameEnds : Prop :=
  (∀ (n : Nat) (s : State), s.cpu.run = .off →
     runFrame s = .error .illegalOrder ∧ runCycles n s = .error .illegalOrder) ∧
  (∀ (n : Nat) (p : Role) (s : State), s.cpu.run ≠ .off → Picked p s →
     (s.params.frameBudget ≤ s.time p →
       ∃ w, step s = .next w ∧ runFrame s = .frameReady w ∧ runCycles n s = .frameReady w) ∧
     (s.time p < s.params.frameBudget → s.sched.stopRequested = true →
       ∃ w, step s = .next w ∧ runFrame s = .paused w ∧ runCycles n s = .paused w)) ∧
  (∀ (n : Nat) (p : Role) (s : State), s.params.Valid → StepsNext p s →
     (∀ r, step s = .refused r →
       runFrame s = .error (.stepRefused r) ∧ runCycles (n + 1) s = .error (.stepRefused r)) ∧
     (∀ w q, step s = .next w → Picked q w →
       runFrame s = runFrame w ∧ runCycles (n + 1) s = runCycles (n + 1 - (w.time q - s.time p)) w) ∧
     runCycles 0 s = .paused (afterLines p s)) ∧
  (∀ (n : Nat) (s t : State), s.params.Valid → runFrame s ≠ .noProgress t ∧ runCycles n s ≠ .noProgress t)

/-- What `reset()` and `powerOn()` leave, at every state that allows the call: every value of the tables of R59 and
R703, SSP and pc from the longs at 0 and 4, ExtDevice in its initial state, memory, the power bits and the parameters
as they were; in a state that does not allow it the call is refused. What construction leaves, and that it fails for
regions that overlap. `State.reset` is a machine just constructed, nothing loaded, and powered on (R59, R111, R699,
R701 to R703). The parameters and the zero memory of `State.reset` are the model's choice (logs 4 and 5). -/
def Obligations.ResetState : Prop :=
  (∀ s : State,
     let left : State → Prop := fun t => ResetValues t ∧ t.cpu.ssp = s.mem.read32 0 ∧
       t.cpu.pc.toNat = (s.mem.read32 4).toNat / 2 * 2 ∧ t.cpu.run = .running ∧ t.mem = s.mem ∧
       t.ext.units = [] ∧ (s.params.device = .default → t.ext.own = []) ∧
       (∀ n own, s.params.device = .handler n own → t.ext.own = own) ∧ t.params = s.params ∧
       ∀ u, (t.risc u).en = (s.risc u).en
     (s.cpu.run ≠ .off → ∃ t, hostReset s = .ok t ∧ left t ∧ t.powered = s.powered) ∧
     (s.cpu.run = .off → hostReset s = .error .illegalOrder) ∧
     (s.cpu.run = .off → ∃ t, powerOn s = .ok t ∧ left t ∧ t.powered = true) ∧
     (s.cpu.run ≠ .off → powerOn s = .error .illegalOrder)) ∧
  (∀ (m : Params) (mem : Memory), ∃ s, construct regions m mem = .ok s ∧ ResetValues s ∧ s.cpu.ssp = 0 ∧ s.cpu.pc = 0 ∧
     s.cpu.run = .off ∧ s.mem = mem ∧ s.ext = m.device.initial ∧ s.params = m ∧ s.powered = false ∧
     ∀ u, (s.risc u).en = true) ∧
  (∀ (table : List Region) (i j a : Nat) (g h : Region) (m : Params) (mem : Memory), i < j → table[i]? = some g →
     table[j]? = some h → g.contains a = true → h.contains a = true →
     construct table m mem = .error .configurationError) ∧
  (∃ s, construct regions State.resetParams [] = .ok s ∧ powerOn s = .ok State.reset)

/-- `loadImage` copies the image to the start of a byte-array region, its capability ignored, while the machine is
off; an image that is too large, a device region, and a call while it runs change nothing and are reported (R699,
R700, R712). That every off state allows the call, one after `powerOff` too, is the model's reading (log 18). -/
def Obligations.LoadImage : Prop :=
  ∀ (image : List Byte) (n : RegionName) (s : State), s.mem.wf = true →
    let g := region n
    (s.cpu.run ≠ .off → loadImage image n s = .error .illegalOrder) ∧
    (s.cpu.run = .off → g.backing ≠ .bytes → loadImage image n s = .error .configurationError) ∧
    (s.cpu.run = .off → g.backing = .bytes → g.stop < g.start + image.length →
      loadImage image n s = .error .imageTooLarge) ∧
    (s.cpu.run = .off → g.backing = .bytes → g.start + image.length ≤ g.stop →
      ∃ t, loadImage image n s = .ok t ∧ t = s.setMem t.mem ∧
        ∀ a, t.mem.read a =
          if h : g.start ≤ a ∧ a < g.start + image.length then image[a - g.start]'(by omega) else s.mem.read a)

/-- The calls between runs. `powerOff` changes the CPU's run state alone and `requestStop` the stop request alone, and
both are refused while off. `setCoprocessorEnabled` sets the power bit alone, but that a unit that is switched on
joins at the least time of the eligible processors; after `powerOff` it is refused. `readRegister` and `readMemory`
answer the values of R710's table, or that there is no data; what stands in memory at an address is disassembled by
its processor's decoder. `snapshot` and `restore` are refused while off, and a snapshot restored into any machine with
the same parameters gives the state it was taken from (R20, R56, R699, R705, R706, R709 to R711). That the stop
request, which R711 does not name, is part of a snapshot and is overwritten by a restore is the model's choice (log
23). That `powered` tells the two off states apart and that `requestStop` is refused while off are the model's form of
R699 (log 18). -/
def Obligations.HostCalls : Prop :=
  (∀ s : State,
     (s.cpu.run = .off → powerOff s = .error .illegalOrder ∧ requestStop s = .error .illegalOrder ∧
       snapshot s = .error .illegalOrder ∧ ∀ v, restore v s = .error .illegalOrder) ∧
     (s.cpu.run ≠ .off → powerOff s = .ok { s with cpu := { s.cpu with run := .off } } ∧
       requestStop s = .ok { s with sched := { s.sched with stopRequested := true } } ∧
       ∃ m, snapshot s = .ok m ∧ restore m s = .ok s ∧
         ∀ v : State, v.cpu.run ≠ .off → v.params = s.params → v.powered = s.powered → restore m v = .ok s)) ∧
  (∀ (u : Coproc) (b : Bool) (s : State),
     (s.cpu.run = .off → s.powered = true → setCoprocessorEnabled u b s = .error .illegalOrder) ∧
     (s.cpu.run ≠ .off ∨ s.powered = false → ∃ t, setCoprocessorEnabled u b s = .ok t ∧
       t = (s.setRisc u { s.risc u with en := b }).setTime (.risc u) (t.time (.risc u)) ∧
       (b = false ∨ (s.risc u).en = true → t.time (.risc u) = s.time (.risc u)) ∧
       ∀ p, b = true → (s.risc u).en = false → IsEligible s p →
         t.time (.risc u) ≤ s.time p ∧ ∃ q, IsEligible s q ∧ t.time (.risc u) = s.time q)) ∧
  (∀ s : State,
     (∀ r : Fin 8, readRegister .cpu r s = .ok (s.dreg r).toNat ∧
       readRegister .cpu (8 + r) s = .ok (s.areg r).toNat) ∧
     readRegister .cpu 16 s = .ok s.cpu.pc.toNat ∧ readRegister .cpu 17 s = .ok s.cpu.sr.toHalf.toNat ∧
     readRegister .cpu 18 s = .ok s.cpu.usp.toNat ∧ readRegister .cpu 19 s = .ok s.cpu.ssp.toNat ∧
     readRegister .cpu 1000 s = .ok s.cpu.cycles ∧
     (∀ k, 20 ≤ k → k ≠ 1000 → readRegister .cpu k s = .error .noData) ∧
     ∀ u, (∀ n : Fin 32, readRegister (.risc u) n s = .ok ((s.risc u).bank0[n]).toNat ∧
         readRegister (.risc u) (32 + n) s = .ok ((s.risc u).bank1[n]).toNat) ∧
       readRegister (.risc u) 64 s = .ok (s.risc u).pc.toNat ∧
       readRegister (.risc u) 65 s = .ok (memRead (.risc u) .l (flagsAddr u) s).1.toNat ∧
       readRegister (.risc u) 1000 s = .ok (s.risc u).cycles ∧
       ∀ k, 66 ≤ k → k ≠ 1000 → readRegister (.risc u) k s = .error .noData) ∧
  (∀ (a len : Nat) (s : State),
     (2 ^ 24 < a + len → readMemory a len s = .error .noData) ∧
     (a + len ≤ 2 ^ 24 → ∃ l, readMemory a len s = .ok l ∧ l.length = len ∧
       ∀ k, k < len → ∃ b, l[k]? = some b ∧
         let x := a + k
         (regionAt x = none → b = 0xFF) ∧
         ∀ g, regionAt x = some g →
           (g.backing = .bytes → b = s.mem.read x) ∧
           ((∃ u, g.backing = .ctrl u) ∨ x / 2 * 2 = 0xF0004E ∨ x / 2 * 2 = 0xF000E0 →
             b = (memRead .cpu .b (BitVec.ofNat 32 x) s).1) ∧
           ((∃ n, g.backing = .ext n) ∨ (g.backing = .tomRegs ∧ x / 2 * 2 ≠ 0xF0004E ∧ x / 2 * 2 ≠ 0xF000E0) →
             b = 0xFF))) ∧
  (∀ (p : Role) (x : Nat) (hi lo : Byte) (i : Instr) (s : State),
     let a := x % 2 ^ 24 / 2 * 2
     let len := 1 + i.extWords
     readMemory a 2 s = .ok [hi, lo] → decode p (hi ++ lo) = .ok i → a + 2 * len ≤ 2 ^ 24 →
     ∃ d, disassembleAt p x s = .ok d ∧ d.instr = i ∧ d.words.length = len ∧ d.text = instrText i d.words.tail ∧
       ∀ (k : Nat) (w : Half), d.words[k]? = some w →
         readMemory (a + 2 * k) 2 s = .ok [w.extractLsb' 8 8, w.extractLsb' 0 8])
end

