-- ==== Sys2Proof/Laws/Memory.lean ====
section
/-! SUPPORT. The laws of memory: a write is read back and leaves every other byte (R107), every operation keeps the
canonical form, and memories in that form that read alike are equal. -/
namespace Sys2Proof.Machine
namespace Memory

/-! ### The canonical form -/

theorem wfAbove_mono {low low' : Nat} {m : Memory} (h : wfAbove low m = true) (hl : low' ≤ low) :
    wfAbove low' m = true := by
  cases m with
  | nil => rfl
  | cons c rest =>
    obtain ⟨k, v⟩ := c
    simp only [wfAbove, Bool.and_eq_true, decide_eq_true_eq] at h ⊢
    exact ⟨⟨by omega, h.1.2⟩, h.2⟩

/-- Below its lowest cell a memory in canonical form reads as unlisted. -/
theorem read_below {low : Nat} {m : Memory} (h : wfAbove low m = true) {a : Nat} (ha : a < low) :
    read m a = unlisted := by
  induction m generalizing low with
  | nil => rfl
  | cons c rest ih =>
    obtain ⟨k, v⟩ := c
    simp only [wfAbove, Bool.and_eq_true, decide_eq_true_eq] at h
    have : a ≠ k := by omega
    simp only [read, this, if_false]
    exact ih h.2 (by omega)

theorem wfAbove_write {low : Nat} {m : Memory} (h : wfAbove low m = true) {a : Nat} (b : Byte) (ha : low ≤ a) :
    wfAbove low (write m a b) = true := by
  induction m generalizing low with
  | nil =>
    by_cases hb : b = unlisted <;> simp [write, wfAbove, hb, ha]
  | cons c rest ih =>
    obtain ⟨k, v⟩ := c
    simp only [wfAbove, Bool.and_eq_true, decide_eq_true_eq] at h
    by_cases h1 : a < k
    · by_cases hb : b = unlisted
      · simp [write, h1, hb, wfAbove, h]
      · have : wfAbove (k + 1) rest = true := h.2
        have hv := h.1.2
        simp_all [write, wfAbove]
    · by_cases h2 : a = k
      · subst h2
        by_cases hb : b = unlisted
        · simp [write, hb]
          exact wfAbove_mono h.2 (by omega)
        · simp [write, hb, wfAbove, h.2, ha]
      · have := ih h.2 (by omega : k + 1 ≤ a)
        simp [write, h1, h2, wfAbove, this, h.1.1]
        have := h.1.2
        simp_all

/-- A byte write keeps the canonical form. -/
theorem wf_write {m : Memory} (h : wf m = true) (a : Nat) (b : Byte) : wf (write m a b) = true :=
  wfAbove_write h b (Nat.zero_le a)

theorem wf_write16 {m : Memory} (h : wf m = true) (a : Nat) (v : Half) : wf (write16 m a v) = true :=
  wf_write (wf_write h _ _) _ _

theorem wf_write32 {m : Memory} (h : wf m = true) (a : Nat) (v : Long) : wf (write32 m a v) = true :=
  wf_write (wf_write (wf_write (wf_write h _ _) _ _) _ _) _ _

/-- A write at any width keeps the canonical form. -/
theorem wf_writeAt {m : Memory} (h : wf m = true) (sz : Size) (a : Nat) (v : BitVec sz.bits) :
    wf (writeAt m sz a v) = true := by
  cases sz
  · exact wf_write h a v
  · exact wf_write16 h a v
  · exact wf_write32 h a v

/-- Storing a list of bytes keeps the canonical form. -/
theorem wf_writeList {m : Memory} (h : wf m = true) (a : Nat) (l : List Byte) : wf (writeList m a l) = true := by
  induction l generalizing m a with
  | nil => exact h
  | cons b rest ih => exact ih (wf_write h a b) (a + 1)

/-! ### Reading after writing -/

/-- After a byte write: the byte written at its address, every other byte as before (R107). -/
theorem read_write {m : Memory} (h : wf m = true) (a c : Nat) (b : Byte) :
    read (write m a b) c = if c = a then b else read m c := by
  suffices ∀ low, wfAbove low m = true → read (write m a b) c = if c = a then b else read m c from this 0 h
  clear h
  intro low h
  induction m generalizing low with
  | nil =>
    by_cases hb : b = unlisted
    · subst hb; simp [write, read]
    · simp [write, hb, read]
  | cons cell rest ih =>
    obtain ⟨k, v⟩ := cell
    simp only [wfAbove, Bool.and_eq_true, decide_eq_true_eq] at h
    have hbelow : ∀ x, x < k + 1 → read rest x = unlisted := fun x hx => read_below h.2 hx
    by_cases h1 : a < k
    · by_cases hb : b = unlisted
      · subst hb
        by_cases hc : c = a
        · subst hc
          have : c ≠ k := by omega
          simp [write, h1, read, this, hbelow c (by omega)]
        · simp [write, h1, hc]
      · by_cases hc : c = a <;> simp [write, h1, hb, read, hc]
    · by_cases h2 : a = k
      · subst h2
        by_cases hb : b = unlisted
        · subst hb
          by_cases hc : c = a
          · subst hc; simp [write, hbelow c (by omega)]
          · simp [write, read, hc]
        · by_cases hc : c = a <;> simp [write, hb, read, hc]
      · have := ih (k + 1) h.2
        by_cases hc : c = k
        · have : c ≠ a := by omega
          simp only [write, h1, h2, read, hc, if_true, if_false]
          simp only [if_neg (fun e : k = a => h2 e.symm)]
        · simp [write, h1, h2, read, hc, this]

theorem read_write_same {m : Memory} (h : wf m = true) (a : Nat) (b : Byte) : read (write m a b) a = b := by
  simp [read_write h]

theorem read_write_ne {m : Memory} (h : wf m = true) {a c : Nat} (b : Byte) (hc : c ≠ a) :
    read (write m a b) c = read m c := by simp [read_write h, hc]

/-- A write at a width leaves every byte outside it (R107). -/
theorem read_writeAt_outside {m : Memory} (h : wf m = true) (sz : Size) (a c : Nat) (v : BitVec sz.bits)
    (hc : c < a ∨ a + sz.bytes ≤ c) : read (writeAt m sz a v) c = read m c := by
  cases sz
  · simp only [Size.bytes] at hc
    exact read_write_ne h _ (by omega)
  · simp only [Size.bytes] at hc
    simp only [writeAt, write16]
    rw [read_write_ne (wf_write h _ _) _ (by omega), read_write_ne h _ (by omega)]
  · simp only [Size.bytes] at hc
    simp only [writeAt, write32]
    rw [read_write_ne (wf_write (wf_write (wf_write h _ _) _ _) _ _) _ (by omega),
      read_write_ne (wf_write (wf_write h _ _) _ _) _ (by omega), read_write_ne (wf_write h _ _) _ (by omega),
      read_write_ne h _ (by omega)]

/-- A word read back after it was written (R107). -/
theorem read16_write16 {m : Memory} (h : wf m = true) (a : Nat) (v : Half) : read16 (write16 m a v) a = v := by
  simp only [read16, write16]
  rw [read_write_ne (wf_write h _ _) _ (by omega), read_write_same h, read_write_same (wf_write h _ _)]
  apply BitVec.eq_of_getLsbD_eq
  intro i hi
  simp only [BitVec.getLsbD_append, BitVec.getLsbD_extractLsb']
  by_cases h8 : i < 8
  · simp [h8]
  · have : i - 8 < 8 := by omega
    have e : 8 + (i - 8) = i := by omega
    simp [h8, this, e]

/-- The four bytes of a long laid together again. -/
theorem bytes_of_long (v : Long) :
    v.extractLsb' 24 8 ++ v.extractLsb' 16 8 ++ v.extractLsb' 8 8 ++ v.extractLsb' 0 8 = v := by
  apply BitVec.eq_of_getLsbD_eq
  intro i hi
  simp only [BitVec.getLsbD_append, BitVec.getLsbD_extractLsb']
  interval_cases i <;> simp

/-- A long read back after it was written (R107). -/
theorem read32_write32 {m : Memory} (h : wf m = true) (a : Nat) (v : Long) : read32 (write32 m a v) a = v := by
  have w1 := wf_write h a (v.extractLsb' 24 8)
  have w2 := wf_write w1 (a + 1) (v.extractLsb' 16 8)
  have w3 := wf_write w2 (a + 2) (v.extractLsb' 8 8)
  simp only [read32, write32, read_write w3, read_write w2, read_write w1, read_write h]
  simp
  exact bytes_of_long v

/-- A value read back at the width it was written at (R107). -/
theorem readAt_writeAt {m : Memory} (h : wf m = true) (sz : Size) (a : Nat) (v : BitVec sz.bits) :
    readAt (writeAt m sz a v) sz a = v := by
  cases sz
  · exact read_write_same h a v
  · exact read16_write16 h a v
  · exact read32_write32 h a v

/-! ### Equality -/

/-- Memories in canonical form that read alike are equal. -/
theorem ext_read {m m' : Memory} (h : wf m = true) (h' : wf m' = true) (he : ∀ a, read m a = read m' a) : m = m' := by
  suffices ∀ low, wfAbove low m = true → wfAbove low m' = true → m = m' from this 0 h h'
  clear h h'
  intro low h h'
  induction m generalizing low m' with
  | nil =>
    cases m' with
    | nil => rfl
    | cons c rest =>
      obtain ⟨k, v⟩ := c
      simp only [wfAbove, Bool.and_eq_true, decide_eq_true_eq] at h'
      have := he k
      simp [read] at this
      exact absurd this.symm (by simpa using h'.1.2)
  | cons c rest ih =>
    obtain ⟨k, v⟩ := c
    simp only [wfAbove, Bool.and_eq_true, decide_eq_true_eq] at h
    cases m' with
    | nil =>
      have := he k
      simp [read] at this
      exact absurd this (by simpa using h.1.2)
    | cons c' rest' =>
      obtain ⟨k', v'⟩ := c'
      simp only [wfAbove, Bool.and_eq_true, decide_eq_true_eq] at h'
      have hk : k = k' := by
        rcases Nat.lt_trichotomy k k' with hlt | heq | hgt
        · have := he k
          have hne : k ≠ k' := by omega
          simp [read, hne, read_below h'.2 (by omega : k < k' + 1)] at this
          exact absurd this (by simpa using h.1.2)
        · exact heq
        · have := he k'
          have hne : k' ≠ k := by omega
          simp [read, hne, read_below h.2 (by omega : k' < k + 1)] at this
          exact absurd this.symm (by simpa using h'.1.2)
      subst hk
      have hv : v = v' := by have := he k; simpa [read] using this
      subst hv
      have : rest = rest' := by
        refine ih (fun a => ?_) (k + 1) h.2 h'.2
        by_cases ha : a = k
        · subst ha; rw [read_below h.2 (by omega), read_below h'.2 (by omega)]
        · have := he a
          simpa [read, ha] using this
      rw [this]

end Memory
end Sys2Proof.Machine
end

