-- ==== Sys2Proof/Laws/State.lean ====
section
/-! SUPPORT. The small lemmas of the record updates of Machine/Registers.lean: what each update leaves, one lemma per
field, and what each accessor reads after each update. -/
namespace Sys2Proof.Machine

@[simp] theorem State.setDreg_gpu (s : State) (r : Fin 8) (v : Long) : (s.setDreg r v).gpu = s.gpu := rfl
@[simp] theorem State.setDreg_dsp (s : State) (r : Fin 8) (v : Long) : (s.setDreg r v).dsp = s.dsp := rfl
@[simp] theorem State.setDreg_cpuLines (s : State) (r : Fin 8) (v : Long) : (s.setDreg r v).cpuLines = s.cpuLines := rfl
@[simp] theorem State.setDreg_vi (s : State) (r : Fin 8) (v : Long) : (s.setDreg r v).vi = s.vi := rfl
@[simp] theorem State.setDreg_mem (s : State) (r : Fin 8) (v : Long) : (s.setDreg r v).mem = s.mem := rfl
@[simp] theorem State.setDreg_ext (s : State) (r : Fin 8) (v : Long) : (s.setDreg r v).ext = s.ext := rfl
@[simp] theorem State.setDreg_sched (s : State) (r : Fin 8) (v : Long) : (s.setDreg r v).sched = s.sched := rfl
@[simp] theorem State.setDreg_params (s : State) (r : Fin 8) (v : Long) : (s.setDreg r v).params = s.params := rfl
@[simp] theorem State.setDreg_powered (s : State) (r : Fin 8) (v : Long) : (s.setDreg r v).powered = s.powered := rfl
@[simp] theorem State.setDreg_fetched (s : State) (r : Fin 8) (v : Long) : (s.setDreg r v).fetched = s.fetched := rfl
@[simp] theorem State.setDreg_stepCycles (s : State) (r : Fin 8) (v : Long) : (s.setDreg r v).stepCycles = s.stepCycles := rfl
@[simp] theorem State.setDreg_cpu_a (s : State) (r : Fin 8) (v : Long) : (s.setDreg r v).cpu.a = s.cpu.a := rfl
@[simp] theorem State.setDreg_cpu_usp (s : State) (r : Fin 8) (v : Long) : (s.setDreg r v).cpu.usp = s.cpu.usp := rfl
@[simp] theorem State.setDreg_cpu_ssp (s : State) (r : Fin 8) (v : Long) : (s.setDreg r v).cpu.ssp = s.cpu.ssp := rfl
@[simp] theorem State.setDreg_cpu_pc (s : State) (r : Fin 8) (v : Long) : (s.setDreg r v).cpu.pc = s.cpu.pc := rfl
@[simp] theorem State.setDreg_cpu_sr (s : State) (r : Fin 8) (v : Long) : (s.setDreg r v).cpu.sr = s.cpu.sr := rfl
@[simp] theorem State.setDreg_cpu_run (s : State) (r : Fin 8) (v : Long) : (s.setDreg r v).cpu.run = s.cpu.run := rfl
@[simp] theorem State.setDreg_cpu_cycles (s : State) (r : Fin 8) (v : Long) : (s.setDreg r v).cpu.cycles = s.cpu.cycles := rfl

@[simp] theorem State.setDregAt_gpu (s : State) (sz : Size) (r : Fin 8) (v : BitVec sz.bits) : (s.setDregAt sz r v).gpu = s.gpu := rfl
@[simp] theorem State.setDregAt_dsp (s : State) (sz : Size) (r : Fin 8) (v : BitVec sz.bits) : (s.setDregAt sz r v).dsp = s.dsp := rfl
@[simp] theorem State.setDregAt_cpuLines (s : State) (sz : Size) (r : Fin 8) (v : BitVec sz.bits) : (s.setDregAt sz r v).cpuLines = s.cpuLines := rfl
@[simp] theorem State.setDregAt_vi (s : State) (sz : Size) (r : Fin 8) (v : BitVec sz.bits) : (s.setDregAt sz r v).vi = s.vi := rfl
@[simp] theorem State.setDregAt_mem (s : State) (sz : Size) (r : Fin 8) (v : BitVec sz.bits) : (s.setDregAt sz r v).mem = s.mem := rfl
@[simp] theorem State.setDregAt_ext (s : State) (sz : Size) (r : Fin 8) (v : BitVec sz.bits) : (s.setDregAt sz r v).ext = s.ext := rfl
@[simp] theorem State.setDregAt_sched (s : State) (sz : Size) (r : Fin 8) (v : BitVec sz.bits) : (s.setDregAt sz r v).sched = s.sched := rfl
@[simp] theorem State.setDregAt_params (s : State) (sz : Size) (r : Fin 8) (v : BitVec sz.bits) : (s.setDregAt sz r v).params = s.params := rfl
@[simp] theorem State.setDregAt_powered (s : State) (sz : Size) (r : Fin 8) (v : BitVec sz.bits) : (s.setDregAt sz r v).powered = s.powered := rfl
@[simp] theorem State.setDregAt_fetched (s : State) (sz : Size) (r : Fin 8) (v : BitVec sz.bits) : (s.setDregAt sz r v).fetched = s.fetched := rfl
@[simp] theorem State.setDregAt_stepCycles (s : State) (sz : Size) (r : Fin 8) (v : BitVec sz.bits) : (s.setDregAt sz r v).stepCycles = s.stepCycles := rfl
@[simp] theorem State.setDregAt_cpu_a (s : State) (sz : Size) (r : Fin 8) (v : BitVec sz.bits) : (s.setDregAt sz r v).cpu.a = s.cpu.a := rfl
@[simp] theorem State.setDregAt_cpu_usp (s : State) (sz : Size) (r : Fin 8) (v : BitVec sz.bits) : (s.setDregAt sz r v).cpu.usp = s.cpu.usp := rfl
@[simp] theorem State.setDregAt_cpu_ssp (s : State) (sz : Size) (r : Fin 8) (v : BitVec sz.bits) : (s.setDregAt sz r v).cpu.ssp = s.cpu.ssp := rfl
@[simp] theorem State.setDregAt_cpu_pc (s : State) (sz : Size) (r : Fin 8) (v : BitVec sz.bits) : (s.setDregAt sz r v).cpu.pc = s.cpu.pc := rfl
@[simp] theorem State.setDregAt_cpu_sr (s : State) (sz : Size) (r : Fin 8) (v : BitVec sz.bits) : (s.setDregAt sz r v).cpu.sr = s.cpu.sr := rfl
@[simp] theorem State.setDregAt_cpu_run (s : State) (sz : Size) (r : Fin 8) (v : BitVec sz.bits) : (s.setDregAt sz r v).cpu.run = s.cpu.run := rfl
@[simp] theorem State.setDregAt_cpu_cycles (s : State) (sz : Size) (r : Fin 8) (v : BitVec sz.bits) : (s.setDregAt sz r v).cpu.cycles = s.cpu.cycles := rfl

@[simp] theorem State.setAreg_gpu (s : State) (r : Fin 8) (v : Long) : (s.setAreg r v).gpu = s.gpu := by unfold State.setAreg; split <;> [rfl; (split <;> rfl)]
@[simp] theorem State.setAreg_dsp (s : State) (r : Fin 8) (v : Long) : (s.setAreg r v).dsp = s.dsp := by unfold State.setAreg; split <;> [rfl; (split <;> rfl)]
@[simp] theorem State.setAreg_cpuLines (s : State) (r : Fin 8) (v : Long) : (s.setAreg r v).cpuLines = s.cpuLines := by unfold State.setAreg; split <;> [rfl; (split <;> rfl)]
@[simp] theorem State.setAreg_vi (s : State) (r : Fin 8) (v : Long) : (s.setAreg r v).vi = s.vi := by unfold State.setAreg; split <;> [rfl; (split <;> rfl)]
@[simp] theorem State.setAreg_mem (s : State) (r : Fin 8) (v : Long) : (s.setAreg r v).mem = s.mem := by unfold State.setAreg; split <;> [rfl; (split <;> rfl)]
@[simp] theorem State.setAreg_ext (s : State) (r : Fin 8) (v : Long) : (s.setAreg r v).ext = s.ext := by unfold State.setAreg; split <;> [rfl; (split <;> rfl)]
@[simp] theorem State.setAreg_sched (s : State) (r : Fin 8) (v : Long) : (s.setAreg r v).sched = s.sched := by unfold State.setAreg; split <;> [rfl; (split <;> rfl)]
@[simp] theorem State.setAreg_params (s : State) (r : Fin 8) (v : Long) : (s.setAreg r v).params = s.params := by unfold State.setAreg; split <;> [rfl; (split <;> rfl)]
@[simp] theorem State.setAreg_powered (s : State) (r : Fin 8) (v : Long) : (s.setAreg r v).powered = s.powered := by unfold State.setAreg; split <;> [rfl; (split <;> rfl)]
@[simp] theorem State.setAreg_fetched (s : State) (r : Fin 8) (v : Long) : (s.setAreg r v).fetched = s.fetched := by unfold State.setAreg; split <;> [rfl; (split <;> rfl)]
@[simp] theorem State.setAreg_stepCycles (s : State) (r : Fin 8) (v : Long) : (s.setAreg r v).stepCycles = s.stepCycles := by unfold State.setAreg; split <;> [rfl; (split <;> rfl)]
@[simp] theorem State.setAreg_cpu_d (s : State) (r : Fin 8) (v : Long) : (s.setAreg r v).cpu.d = s.cpu.d := by unfold State.setAreg; split <;> [rfl; (split <;> rfl)]
@[simp] theorem State.setAreg_cpu_pc (s : State) (r : Fin 8) (v : Long) : (s.setAreg r v).cpu.pc = s.cpu.pc := by unfold State.setAreg; split <;> [rfl; (split <;> rfl)]
@[simp] theorem State.setAreg_cpu_sr (s : State) (r : Fin 8) (v : Long) : (s.setAreg r v).cpu.sr = s.cpu.sr := by unfold State.setAreg; split <;> [rfl; (split <;> rfl)]
@[simp] theorem State.setAreg_cpu_run (s : State) (r : Fin 8) (v : Long) : (s.setAreg r v).cpu.run = s.cpu.run := by unfold State.setAreg; split <;> [rfl; (split <;> rfl)]
@[simp] theorem State.setAreg_cpu_cycles (s : State) (r : Fin 8) (v : Long) : (s.setAreg r v).cpu.cycles = s.cpu.cycles := by unfold State.setAreg; split <;> [rfl; (split <;> rfl)]

@[simp] theorem State.setUsp_gpu (s : State) (v : Long) : (s.setUsp v).gpu = s.gpu := rfl
@[simp] theorem State.setUsp_dsp (s : State) (v : Long) : (s.setUsp v).dsp = s.dsp := rfl
@[simp] theorem State.setUsp_cpuLines (s : State) (v : Long) : (s.setUsp v).cpuLines = s.cpuLines := rfl
@[simp] theorem State.setUsp_vi (s : State) (v : Long) : (s.setUsp v).vi = s.vi := rfl
@[simp] theorem State.setUsp_mem (s : State) (v : Long) : (s.setUsp v).mem = s.mem := rfl
@[simp] theorem State.setUsp_ext (s : State) (v : Long) : (s.setUsp v).ext = s.ext := rfl
@[simp] theorem State.setUsp_sched (s : State) (v : Long) : (s.setUsp v).sched = s.sched := rfl
@[simp] theorem State.setUsp_params (s : State) (v : Long) : (s.setUsp v).params = s.params := rfl
@[simp] theorem State.setUsp_powered (s : State) (v : Long) : (s.setUsp v).powered = s.powered := rfl
@[simp] theorem State.setUsp_fetched (s : State) (v : Long) : (s.setUsp v).fetched = s.fetched := rfl
@[simp] theorem State.setUsp_stepCycles (s : State) (v : Long) : (s.setUsp v).stepCycles = s.stepCycles := rfl
@[simp] theorem State.setUsp_cpu_d (s : State) (v : Long) : (s.setUsp v).cpu.d = s.cpu.d := rfl
@[simp] theorem State.setUsp_cpu_a (s : State) (v : Long) : (s.setUsp v).cpu.a = s.cpu.a := rfl
@[simp] theorem State.setUsp_cpu_ssp (s : State) (v : Long) : (s.setUsp v).cpu.ssp = s.cpu.ssp := rfl
@[simp] theorem State.setUsp_cpu_pc (s : State) (v : Long) : (s.setUsp v).cpu.pc = s.cpu.pc := rfl
@[simp] theorem State.setUsp_cpu_sr (s : State) (v : Long) : (s.setUsp v).cpu.sr = s.cpu.sr := rfl
@[simp] theorem State.setUsp_cpu_run (s : State) (v : Long) : (s.setUsp v).cpu.run = s.cpu.run := rfl
@[simp] theorem State.setUsp_cpu_cycles (s : State) (v : Long) : (s.setUsp v).cpu.cycles = s.cpu.cycles := rfl

@[simp] theorem State.setPc_gpu (s : State) (v : Long) : (s.setPc v).gpu = s.gpu := rfl
@[simp] theorem State.setPc_dsp (s : State) (v : Long) : (s.setPc v).dsp = s.dsp := rfl
@[simp] theorem State.setPc_cpuLines (s : State) (v : Long) : (s.setPc v).cpuLines = s.cpuLines := rfl
@[simp] theorem State.setPc_vi (s : State) (v : Long) : (s.setPc v).vi = s.vi := rfl
@[simp] theorem State.setPc_mem (s : State) (v : Long) : (s.setPc v).mem = s.mem := rfl
@[simp] theorem State.setPc_ext (s : State) (v : Long) : (s.setPc v).ext = s.ext := rfl
@[simp] theorem State.setPc_sched (s : State) (v : Long) : (s.setPc v).sched = s.sched := rfl
@[simp] theorem State.setPc_params (s : State) (v : Long) : (s.setPc v).params = s.params := rfl
@[simp] theorem State.setPc_powered (s : State) (v : Long) : (s.setPc v).powered = s.powered := rfl
@[simp] theorem State.setPc_fetched (s : State) (v : Long) : (s.setPc v).fetched = s.fetched := rfl
@[simp] theorem State.setPc_stepCycles (s : State) (v : Long) : (s.setPc v).stepCycles = s.stepCycles := rfl
@[simp] theorem State.setPc_cpu_d (s : State) (v : Long) : (s.setPc v).cpu.d = s.cpu.d := rfl
@[simp] theorem State.setPc_cpu_a (s : State) (v : Long) : (s.setPc v).cpu.a = s.cpu.a := rfl
@[simp] theorem State.setPc_cpu_usp (s : State) (v : Long) : (s.setPc v).cpu.usp = s.cpu.usp := rfl
@[simp] theorem State.setPc_cpu_ssp (s : State) (v : Long) : (s.setPc v).cpu.ssp = s.cpu.ssp := rfl
@[simp] theorem State.setPc_cpu_sr (s : State) (v : Long) : (s.setPc v).cpu.sr = s.cpu.sr := rfl
@[simp] theorem State.setPc_cpu_run (s : State) (v : Long) : (s.setPc v).cpu.run = s.cpu.run := rfl
@[simp] theorem State.setPc_cpu_cycles (s : State) (v : Long) : (s.setPc v).cpu.cycles = s.cpu.cycles := rfl

@[simp] theorem State.setSr_gpu (s : State) (r : StatusReg) : (s.setSr r).gpu = s.gpu := rfl
@[simp] theorem State.setSr_dsp (s : State) (r : StatusReg) : (s.setSr r).dsp = s.dsp := rfl
@[simp] theorem State.setSr_cpuLines (s : State) (r : StatusReg) : (s.setSr r).cpuLines = s.cpuLines := rfl
@[simp] theorem State.setSr_vi (s : State) (r : StatusReg) : (s.setSr r).vi = s.vi := rfl
@[simp] theorem State.setSr_mem (s : State) (r : StatusReg) : (s.setSr r).mem = s.mem := rfl
@[simp] theorem State.setSr_ext (s : State) (r : StatusReg) : (s.setSr r).ext = s.ext := rfl
@[simp] theorem State.setSr_sched (s : State) (r : StatusReg) : (s.setSr r).sched = s.sched := rfl
@[simp] theorem State.setSr_params (s : State) (r : StatusReg) : (s.setSr r).params = s.params := rfl
@[simp] theorem State.setSr_powered (s : State) (r : StatusReg) : (s.setSr r).powered = s.powered := rfl
@[simp] theorem State.setSr_fetched (s : State) (r : StatusReg) : (s.setSr r).fetched = s.fetched := rfl
@[simp] theorem State.setSr_stepCycles (s : State) (r : StatusReg) : (s.setSr r).stepCycles = s.stepCycles := rfl
@[simp] theorem State.setSr_cpu_d (s : State) (r : StatusReg) : (s.setSr r).cpu.d = s.cpu.d := rfl
@[simp] theorem State.setSr_cpu_a (s : State) (r : StatusReg) : (s.setSr r).cpu.a = s.cpu.a := rfl
@[simp] theorem State.setSr_cpu_usp (s : State) (r : StatusReg) : (s.setSr r).cpu.usp = s.cpu.usp := rfl
@[simp] theorem State.setSr_cpu_ssp (s : State) (r : StatusReg) : (s.setSr r).cpu.ssp = s.cpu.ssp := rfl
@[simp] theorem State.setSr_cpu_pc (s : State) (r : StatusReg) : (s.setSr r).cpu.pc = s.cpu.pc := rfl
@[simp] theorem State.setSr_cpu_run (s : State) (r : StatusReg) : (s.setSr r).cpu.run = s.cpu.run := rfl
@[simp] theorem State.setSr_cpu_cycles (s : State) (r : StatusReg) : (s.setSr r).cpu.cycles = s.cpu.cycles := rfl

@[simp] theorem State.setCcr_gpu (s : State) (f : Ccr) : (s.setCcr f).gpu = s.gpu := rfl
@[simp] theorem State.setCcr_dsp (s : State) (f : Ccr) : (s.setCcr f).dsp = s.dsp := rfl
@[simp] theorem State.setCcr_cpuLines (s : State) (f : Ccr) : (s.setCcr f).cpuLines = s.cpuLines := rfl
@[simp] theorem State.setCcr_vi (s : State) (f : Ccr) : (s.setCcr f).vi = s.vi := rfl
@[simp] theorem State.setCcr_mem (s : State) (f : Ccr) : (s.setCcr f).mem = s.mem := rfl
@[simp] theorem State.setCcr_ext (s : State) (f : Ccr) : (s.setCcr f).ext = s.ext := rfl
@[simp] theorem State.setCcr_sched (s : State) (f : Ccr) : (s.setCcr f).sched = s.sched := rfl
@[simp] theorem State.setCcr_params (s : State) (f : Ccr) : (s.setCcr f).params = s.params := rfl
@[simp] theorem State.setCcr_powered (s : State) (f : Ccr) : (s.setCcr f).powered = s.powered := rfl
@[simp] theorem State.setCcr_fetched (s : State) (f : Ccr) : (s.setCcr f).fetched = s.fetched := rfl
@[simp] theorem State.setCcr_stepCycles (s : State) (f : Ccr) : (s.setCcr f).stepCycles = s.stepCycles := rfl
@[simp] theorem State.setCcr_cpu_d (s : State) (f : Ccr) : (s.setCcr f).cpu.d = s.cpu.d := rfl
@[simp] theorem State.setCcr_cpu_a (s : State) (f : Ccr) : (s.setCcr f).cpu.a = s.cpu.a := rfl
@[simp] theorem State.setCcr_cpu_usp (s : State) (f : Ccr) : (s.setCcr f).cpu.usp = s.cpu.usp := rfl
@[simp] theorem State.setCcr_cpu_ssp (s : State) (f : Ccr) : (s.setCcr f).cpu.ssp = s.cpu.ssp := rfl
@[simp] theorem State.setCcr_cpu_pc (s : State) (f : Ccr) : (s.setCcr f).cpu.pc = s.cpu.pc := rfl
@[simp] theorem State.setCcr_cpu_run (s : State) (f : Ccr) : (s.setCcr f).cpu.run = s.cpu.run := rfl
@[simp] theorem State.setCcr_cpu_cycles (s : State) (f : Ccr) : (s.setCcr f).cpu.cycles = s.cpu.cycles := rfl

@[simp] theorem State.setRun_gpu (s : State) (r : CpuRun) : (s.setRun r).gpu = s.gpu := rfl
@[simp] theorem State.setRun_dsp (s : State) (r : CpuRun) : (s.setRun r).dsp = s.dsp := rfl
@[simp] theorem State.setRun_cpuLines (s : State) (r : CpuRun) : (s.setRun r).cpuLines = s.cpuLines := rfl
@[simp] theorem State.setRun_vi (s : State) (r : CpuRun) : (s.setRun r).vi = s.vi := rfl
@[simp] theorem State.setRun_mem (s : State) (r : CpuRun) : (s.setRun r).mem = s.mem := rfl
@[simp] theorem State.setRun_ext (s : State) (r : CpuRun) : (s.setRun r).ext = s.ext := rfl
@[simp] theorem State.setRun_sched (s : State) (r : CpuRun) : (s.setRun r).sched = s.sched := rfl
@[simp] theorem State.setRun_params (s : State) (r : CpuRun) : (s.setRun r).params = s.params := rfl
@[simp] theorem State.setRun_powered (s : State) (r : CpuRun) : (s.setRun r).powered = s.powered := rfl
@[simp] theorem State.setRun_fetched (s : State) (r : CpuRun) : (s.setRun r).fetched = s.fetched := rfl
@[simp] theorem State.setRun_stepCycles (s : State) (r : CpuRun) : (s.setRun r).stepCycles = s.stepCycles := rfl
@[simp] theorem State.setRun_cpu_d (s : State) (r : CpuRun) : (s.setRun r).cpu.d = s.cpu.d := rfl
@[simp] theorem State.setRun_cpu_a (s : State) (r : CpuRun) : (s.setRun r).cpu.a = s.cpu.a := rfl
@[simp] theorem State.setRun_cpu_usp (s : State) (r : CpuRun) : (s.setRun r).cpu.usp = s.cpu.usp := rfl
@[simp] theorem State.setRun_cpu_ssp (s : State) (r : CpuRun) : (s.setRun r).cpu.ssp = s.cpu.ssp := rfl
@[simp] theorem State.setRun_cpu_pc (s : State) (r : CpuRun) : (s.setRun r).cpu.pc = s.cpu.pc := rfl
@[simp] theorem State.setRun_cpu_sr (s : State) (r : CpuRun) : (s.setRun r).cpu.sr = s.cpu.sr := rfl
@[simp] theorem State.setRun_cpu_cycles (s : State) (r : CpuRun) : (s.setRun r).cpu.cycles = s.cpu.cycles := rfl

@[simp] theorem State.setMem_cpu (s : State) (m : Memory) : (s.setMem m).cpu = s.cpu := rfl
@[simp] theorem State.setMem_gpu (s : State) (m : Memory) : (s.setMem m).gpu = s.gpu := rfl
@[simp] theorem State.setMem_dsp (s : State) (m : Memory) : (s.setMem m).dsp = s.dsp := rfl
@[simp] theorem State.setMem_cpuLines (s : State) (m : Memory) : (s.setMem m).cpuLines = s.cpuLines := rfl
@[simp] theorem State.setMem_vi (s : State) (m : Memory) : (s.setMem m).vi = s.vi := rfl
@[simp] theorem State.setMem_ext (s : State) (m : Memory) : (s.setMem m).ext = s.ext := rfl
@[simp] theorem State.setMem_sched (s : State) (m : Memory) : (s.setMem m).sched = s.sched := rfl
@[simp] theorem State.setMem_params (s : State) (m : Memory) : (s.setMem m).params = s.params := rfl
@[simp] theorem State.setMem_powered (s : State) (m : Memory) : (s.setMem m).powered = s.powered := rfl
@[simp] theorem State.setMem_fetched (s : State) (m : Memory) : (s.setMem m).fetched = s.fetched := rfl
@[simp] theorem State.setMem_stepCycles (s : State) (m : Memory) : (s.setMem m).stepCycles = s.stepCycles := rfl

@[simp] theorem State.addStepCycles_cpu (s : State) (c : Nat) : (s.addStepCycles c).cpu = s.cpu := rfl
@[simp] theorem State.addStepCycles_gpu (s : State) (c : Nat) : (s.addStepCycles c).gpu = s.gpu := rfl
@[simp] theorem State.addStepCycles_dsp (s : State) (c : Nat) : (s.addStepCycles c).dsp = s.dsp := rfl
@[simp] theorem State.addStepCycles_cpuLines (s : State) (c : Nat) : (s.addStepCycles c).cpuLines = s.cpuLines := rfl
@[simp] theorem State.addStepCycles_vi (s : State) (c : Nat) : (s.addStepCycles c).vi = s.vi := rfl
@[simp] theorem State.addStepCycles_mem (s : State) (c : Nat) : (s.addStepCycles c).mem = s.mem := rfl
@[simp] theorem State.addStepCycles_ext (s : State) (c : Nat) : (s.addStepCycles c).ext = s.ext := rfl
@[simp] theorem State.addStepCycles_sched (s : State) (c : Nat) : (s.addStepCycles c).sched = s.sched := rfl
@[simp] theorem State.addStepCycles_params (s : State) (c : Nat) : (s.addStepCycles c).params = s.params := rfl
@[simp] theorem State.addStepCycles_powered (s : State) (c : Nat) : (s.addStepCycles c).powered = s.powered := rfl
@[simp] theorem State.addStepCycles_fetched (s : State) (c : Nat) : (s.addStepCycles c).fetched = s.fetched := rfl

@[simp] theorem State.chargeFetched_cpu (s : State) (p : Role) : (s.chargeFetched p).cpu = s.cpu := rfl
@[simp] theorem State.chargeFetched_gpu (s : State) (p : Role) : (s.chargeFetched p).gpu = s.gpu := rfl
@[simp] theorem State.chargeFetched_dsp (s : State) (p : Role) : (s.chargeFetched p).dsp = s.dsp := rfl
@[simp] theorem State.chargeFetched_cpuLines (s : State) (p : Role) : (s.chargeFetched p).cpuLines = s.cpuLines := rfl
@[simp] theorem State.chargeFetched_vi (s : State) (p : Role) : (s.chargeFetched p).vi = s.vi := rfl
@[simp] theorem State.chargeFetched_mem (s : State) (p : Role) : (s.chargeFetched p).mem = s.mem := rfl
@[simp] theorem State.chargeFetched_ext (s : State) (p : Role) : (s.chargeFetched p).ext = s.ext := rfl
@[simp] theorem State.chargeFetched_sched (s : State) (p : Role) : (s.chargeFetched p).sched = s.sched := rfl
@[simp] theorem State.chargeFetched_params (s : State) (p : Role) : (s.chargeFetched p).params = s.params := rfl
@[simp] theorem State.chargeFetched_powered (s : State) (p : Role) : (s.chargeFetched p).powered = s.powered := rfl

@[simp] theorem State.setRisc_cpu (s : State) (u : Coproc) (r : Risc) : (s.setRisc u r).cpu = s.cpu := by cases u <;> rfl
@[simp] theorem State.setRisc_cpuLines (s : State) (u : Coproc) (r : Risc) : (s.setRisc u r).cpuLines = s.cpuLines := by cases u <;> rfl
@[simp] theorem State.setRisc_vi (s : State) (u : Coproc) (r : Risc) : (s.setRisc u r).vi = s.vi := by cases u <;> rfl
@[simp] theorem State.setRisc_mem (s : State) (u : Coproc) (r : Risc) : (s.setRisc u r).mem = s.mem := by cases u <;> rfl
@[simp] theorem State.setRisc_ext (s : State) (u : Coproc) (r : Risc) : (s.setRisc u r).ext = s.ext := by cases u <;> rfl
@[simp] theorem State.setRisc_sched (s : State) (u : Coproc) (r : Risc) : (s.setRisc u r).sched = s.sched := by cases u <;> rfl
@[simp] theorem State.setRisc_params (s : State) (u : Coproc) (r : Risc) : (s.setRisc u r).params = s.params := by cases u <;> rfl
@[simp] theorem State.setRisc_powered (s : State) (u : Coproc) (r : Risc) : (s.setRisc u r).powered = s.powered := by cases u <;> rfl
@[simp] theorem State.setRisc_fetched (s : State) (u : Coproc) (r : Risc) : (s.setRisc u r).fetched = s.fetched := by cases u <;> rfl
@[simp] theorem State.setRisc_stepCycles (s : State) (u : Coproc) (r : Risc) : (s.setRisc u r).stepCycles = s.stepCycles := by cases u <;> rfl

@[simp] theorem State.setBank0_cpu (s : State) (u : Coproc) (n : Fin 32) (v : Long) : (s.setBank0 u n v).cpu = s.cpu := by cases u <;> rfl
@[simp] theorem State.setBank0_cpuLines (s : State) (u : Coproc) (n : Fin 32) (v : Long) : (s.setBank0 u n v).cpuLines = s.cpuLines := by cases u <;> rfl
@[simp] theorem State.setBank0_vi (s : State) (u : Coproc) (n : Fin 32) (v : Long) : (s.setBank0 u n v).vi = s.vi := by cases u <;> rfl
@[simp] theorem State.setBank0_mem (s : State) (u : Coproc) (n : Fin 32) (v : Long) : (s.setBank0 u n v).mem = s.mem := by cases u <;> rfl
@[simp] theorem State.setBank0_ext (s : State) (u : Coproc) (n : Fin 32) (v : Long) : (s.setBank0 u n v).ext = s.ext := by cases u <;> rfl
@[simp] theorem State.setBank0_sched (s : State) (u : Coproc) (n : Fin 32) (v : Long) : (s.setBank0 u n v).sched = s.sched := by cases u <;> rfl
@[simp] theorem State.setBank0_params (s : State) (u : Coproc) (n : Fin 32) (v : Long) : (s.setBank0 u n v).params = s.params := by cases u <;> rfl
@[simp] theorem State.setBank0_powered (s : State) (u : Coproc) (n : Fin 32) (v : Long) : (s.setBank0 u n v).powered = s.powered := by cases u <;> rfl
@[simp] theorem State.setBank0_fetched (s : State) (u : Coproc) (n : Fin 32) (v : Long) : (s.setBank0 u n v).fetched = s.fetched := by cases u <;> rfl
@[simp] theorem State.setBank0_stepCycles (s : State) (u : Coproc) (n : Fin 32) (v : Long) : (s.setBank0 u n v).stepCycles = s.stepCycles := by cases u <;> rfl

@[simp] theorem State.setBank1_cpu (s : State) (u : Coproc) (n : Fin 32) (v : Long) : (s.setBank1 u n v).cpu = s.cpu := by cases u <;> rfl
@[simp] theorem State.setBank1_cpuLines (s : State) (u : Coproc) (n : Fin 32) (v : Long) : (s.setBank1 u n v).cpuLines = s.cpuLines := by cases u <;> rfl
@[simp] theorem State.setBank1_vi (s : State) (u : Coproc) (n : Fin 32) (v : Long) : (s.setBank1 u n v).vi = s.vi := by cases u <;> rfl
@[simp] theorem State.setBank1_mem (s : State) (u : Coproc) (n : Fin 32) (v : Long) : (s.setBank1 u n v).mem = s.mem := by cases u <;> rfl
@[simp] theorem State.setBank1_ext (s : State) (u : Coproc) (n : Fin 32) (v : Long) : (s.setBank1 u n v).ext = s.ext := by cases u <;> rfl
@[simp] theorem State.setBank1_sched (s : State) (u : Coproc) (n : Fin 32) (v : Long) : (s.setBank1 u n v).sched = s.sched := by cases u <;> rfl
@[simp] theorem State.setBank1_params (s : State) (u : Coproc) (n : Fin 32) (v : Long) : (s.setBank1 u n v).params = s.params := by cases u <;> rfl
@[simp] theorem State.setBank1_powered (s : State) (u : Coproc) (n : Fin 32) (v : Long) : (s.setBank1 u n v).powered = s.powered := by cases u <;> rfl
@[simp] theorem State.setBank1_fetched (s : State) (u : Coproc) (n : Fin 32) (v : Long) : (s.setBank1 u n v).fetched = s.fetched := by cases u <;> rfl
@[simp] theorem State.setBank1_stepCycles (s : State) (u : Coproc) (n : Fin 32) (v : Long) : (s.setBank1 u n v).stepCycles = s.stepCycles := by cases u <;> rfl

@[simp] theorem State.setRreg_cpu (s : State) (u : Coproc) (n : Fin 32) (v : Long) : (s.setRreg u n v).cpu = s.cpu := by unfold State.setRreg; split <;> simp
@[simp] theorem State.setRreg_cpuLines (s : State) (u : Coproc) (n : Fin 32) (v : Long) : (s.setRreg u n v).cpuLines = s.cpuLines := by unfold State.setRreg; split <;> simp
@[simp] theorem State.setRreg_vi (s : State) (u : Coproc) (n : Fin 32) (v : Long) : (s.setRreg u n v).vi = s.vi := by unfold State.setRreg; split <;> simp
@[simp] theorem State.setRreg_mem (s : State) (u : Coproc) (n : Fin 32) (v : Long) : (s.setRreg u n v).mem = s.mem := by unfold State.setRreg; split <;> simp
@[simp] theorem State.setRreg_ext (s : State) (u : Coproc) (n : Fin 32) (v : Long) : (s.setRreg u n v).ext = s.ext := by unfold State.setRreg; split <;> simp
@[simp] theorem State.setRreg_sched (s : State) (u : Coproc) (n : Fin 32) (v : Long) : (s.setRreg u n v).sched = s.sched := by unfold State.setRreg; split <;> simp
@[simp] theorem State.setRreg_params (s : State) (u : Coproc) (n : Fin 32) (v : Long) : (s.setRreg u n v).params = s.params := by unfold State.setRreg; split <;> simp
@[simp] theorem State.setRreg_powered (s : State) (u : Coproc) (n : Fin 32) (v : Long) : (s.setRreg u n v).powered = s.powered := by unfold State.setRreg; split <;> simp
@[simp] theorem State.setRreg_fetched (s : State) (u : Coproc) (n : Fin 32) (v : Long) : (s.setRreg u n v).fetched = s.fetched := by unfold State.setRreg; split <;> simp
@[simp] theorem State.setRreg_stepCycles (s : State) (u : Coproc) (n : Fin 32) (v : Long) : (s.setRreg u n v).stepCycles = s.stepCycles := by unfold State.setRreg; split <;> simp

@[simp] theorem State.setAltReg_cpu (s : State) (u : Coproc) (n : Fin 32) (v : Long) : (s.setAltReg u n v).cpu = s.cpu := by unfold State.setAltReg; split <;> simp
@[simp] theorem State.setAltReg_cpuLines (s : State) (u : Coproc) (n : Fin 32) (v : Long) : (s.setAltReg u n v).cpuLines = s.cpuLines := by unfold State.setAltReg; split <;> simp
@[simp] theorem State.setAltReg_vi (s : State) (u : Coproc) (n : Fin 32) (v : Long) : (s.setAltReg u n v).vi = s.vi := by unfold State.setAltReg; split <;> simp
@[simp] theorem State.setAltReg_mem (s : State) (u : Coproc) (n : Fin 32) (v : Long) : (s.setAltReg u n v).mem = s.mem := by unfold State.setAltReg; split <;> simp
@[simp] theorem State.setAltReg_ext (s : State) (u : Coproc) (n : Fin 32) (v : Long) : (s.setAltReg u n v).ext = s.ext := by unfold State.setAltReg; split <;> simp
@[simp] theorem State.setAltReg_sched (s : State) (u : Coproc) (n : Fin 32) (v : Long) : (s.setAltReg u n v).sched = s.sched := by unfold State.setAltReg; split <;> simp
@[simp] theorem State.setAltReg_params (s : State) (u : Coproc) (n : Fin 32) (v : Long) : (s.setAltReg u n v).params = s.params := by unfold State.setAltReg; split <;> simp
@[simp] theorem State.setAltReg_powered (s : State) (u : Coproc) (n : Fin 32) (v : Long) : (s.setAltReg u n v).powered = s.powered := by unfold State.setAltReg; split <;> simp
@[simp] theorem State.setAltReg_fetched (s : State) (u : Coproc) (n : Fin 32) (v : Long) : (s.setAltReg u n v).fetched = s.fetched := by unfold State.setAltReg; split <;> simp
@[simp] theorem State.setAltReg_stepCycles (s : State) (u : Coproc) (n : Fin 32) (v : Long) : (s.setAltReg u n v).stepCycles = s.stepCycles := by unfold State.setAltReg; split <;> simp

@[simp] theorem State.setRpc_cpu (s : State) (u : Coproc) (v : Long) : (s.setRpc u v).cpu = s.cpu := by cases u <;> rfl
@[simp] theorem State.setRpc_cpuLines (s : State) (u : Coproc) (v : Long) : (s.setRpc u v).cpuLines = s.cpuLines := by cases u <;> rfl
@[simp] theorem State.setRpc_vi (s : State) (u : Coproc) (v : Long) : (s.setRpc u v).vi = s.vi := by cases u <;> rfl
@[simp] theorem State.setRpc_mem (s : State) (u : Coproc) (v : Long) : (s.setRpc u v).mem = s.mem := by cases u <;> rfl
@[simp] theorem State.setRpc_ext (s : State) (u : Coproc) (v : Long) : (s.setRpc u v).ext = s.ext := by cases u <;> rfl
@[simp] theorem State.setRpc_sched (s : State) (u : Coproc) (v : Long) : (s.setRpc u v).sched = s.sched := by cases u <;> rfl
@[simp] theorem State.setRpc_params (s : State) (u : Coproc) (v : Long) : (s.setRpc u v).params = s.params := by cases u <;> rfl
@[simp] theorem State.setRpc_powered (s : State) (u : Coproc) (v : Long) : (s.setRpc u v).powered = s.powered := by cases u <;> rfl
@[simp] theorem State.setRpc_fetched (s : State) (u : Coproc) (v : Long) : (s.setRpc u v).fetched = s.fetched := by cases u <;> rfl
@[simp] theorem State.setRpc_stepCycles (s : State) (u : Coproc) (v : Long) : (s.setRpc u v).stepCycles = s.stepCycles := by cases u <;> rfl

@[simp] theorem State.setZN_cpu (s : State) (u : Coproc) (z n : Bool) : (s.setZN u z n).cpu = s.cpu := by cases u <;> rfl
@[simp] theorem State.setZN_cpuLines (s : State) (u : Coproc) (z n : Bool) : (s.setZN u z n).cpuLines = s.cpuLines := by cases u <;> rfl
@[simp] theorem State.setZN_vi (s : State) (u : Coproc) (z n : Bool) : (s.setZN u z n).vi = s.vi := by cases u <;> rfl
@[simp] theorem State.setZN_mem (s : State) (u : Coproc) (z n : Bool) : (s.setZN u z n).mem = s.mem := by cases u <;> rfl
@[simp] theorem State.setZN_ext (s : State) (u : Coproc) (z n : Bool) : (s.setZN u z n).ext = s.ext := by cases u <;> rfl
@[simp] theorem State.setZN_sched (s : State) (u : Coproc) (z n : Bool) : (s.setZN u z n).sched = s.sched := by cases u <;> rfl
@[simp] theorem State.setZN_params (s : State) (u : Coproc) (z n : Bool) : (s.setZN u z n).params = s.params := by cases u <;> rfl
@[simp] theorem State.setZN_powered (s : State) (u : Coproc) (z n : Bool) : (s.setZN u z n).powered = s.powered := by cases u <;> rfl
@[simp] theorem State.setZN_fetched (s : State) (u : Coproc) (z n : Bool) : (s.setZN u z n).fetched = s.fetched := by cases u <;> rfl
@[simp] theorem State.setZN_stepCycles (s : State) (u : Coproc) (z n : Bool) : (s.setZN u z n).stepCycles = s.stepCycles := by cases u <;> rfl

@[simp] theorem State.setZNC_cpu (s : State) (u : Coproc) (z n c : Bool) : (s.setZNC u z n c).cpu = s.cpu := by cases u <;> rfl
@[simp] theorem State.setZNC_cpuLines (s : State) (u : Coproc) (z n c : Bool) : (s.setZNC u z n c).cpuLines = s.cpuLines := by cases u <;> rfl
@[simp] theorem State.setZNC_vi (s : State) (u : Coproc) (z n c : Bool) : (s.setZNC u z n c).vi = s.vi := by cases u <;> rfl
@[simp] theorem State.setZNC_mem (s : State) (u : Coproc) (z n c : Bool) : (s.setZNC u z n c).mem = s.mem := by cases u <;> rfl
@[simp] theorem State.setZNC_ext (s : State) (u : Coproc) (z n c : Bool) : (s.setZNC u z n c).ext = s.ext := by cases u <;> rfl
@[simp] theorem State.setZNC_sched (s : State) (u : Coproc) (z n c : Bool) : (s.setZNC u z n c).sched = s.sched := by cases u <;> rfl
@[simp] theorem State.setZNC_params (s : State) (u : Coproc) (z n c : Bool) : (s.setZNC u z n c).params = s.params := by cases u <;> rfl
@[simp] theorem State.setZNC_powered (s : State) (u : Coproc) (z n c : Bool) : (s.setZNC u z n c).powered = s.powered := by cases u <;> rfl
@[simp] theorem State.setZNC_fetched (s : State) (u : Coproc) (z n c : Bool) : (s.setZNC u z n c).fetched = s.fetched := by cases u <;> rfl
@[simp] theorem State.setZNC_stepCycles (s : State) (u : Coproc) (z n c : Bool) : (s.setZNC u z n c).stepCycles = s.stepCycles := by cases u <;> rfl

@[simp] theorem State.setHidata_cpu (s : State) (v : Long) : (s.setHidata v).cpu = s.cpu := rfl
@[simp] theorem State.setHidata_dsp (s : State) (v : Long) : (s.setHidata v).dsp = s.dsp := rfl
@[simp] theorem State.setHidata_cpuLines (s : State) (v : Long) : (s.setHidata v).cpuLines = s.cpuLines := rfl
@[simp] theorem State.setHidata_vi (s : State) (v : Long) : (s.setHidata v).vi = s.vi := rfl
@[simp] theorem State.setHidata_mem (s : State) (v : Long) : (s.setHidata v).mem = s.mem := rfl
@[simp] theorem State.setHidata_ext (s : State) (v : Long) : (s.setHidata v).ext = s.ext := rfl
@[simp] theorem State.setHidata_sched (s : State) (v : Long) : (s.setHidata v).sched = s.sched := rfl
@[simp] theorem State.setHidata_params (s : State) (v : Long) : (s.setHidata v).params = s.params := rfl
@[simp] theorem State.setHidata_powered (s : State) (v : Long) : (s.setHidata v).powered = s.powered := rfl
@[simp] theorem State.setHidata_fetched (s : State) (v : Long) : (s.setHidata v).fetched = s.fetched := rfl
@[simp] theorem State.setHidata_stepCycles (s : State) (v : Long) : (s.setHidata v).stepCycles = s.stepCycles := rfl

@[simp] theorem State.setModulo_cpu (s : State) (v : Long) : (s.setModulo v).cpu = s.cpu := rfl
@[simp] theorem State.setModulo_gpu (s : State) (v : Long) : (s.setModulo v).gpu = s.gpu := rfl
@[simp] theorem State.setModulo_cpuLines (s : State) (v : Long) : (s.setModulo v).cpuLines = s.cpuLines := rfl
@[simp] theorem State.setModulo_vi (s : State) (v : Long) : (s.setModulo v).vi = s.vi := rfl
@[simp] theorem State.setModulo_mem (s : State) (v : Long) : (s.setModulo v).mem = s.mem := rfl
@[simp] theorem State.setModulo_ext (s : State) (v : Long) : (s.setModulo v).ext = s.ext := rfl
@[simp] theorem State.setModulo_sched (s : State) (v : Long) : (s.setModulo v).sched = s.sched := rfl
@[simp] theorem State.setModulo_params (s : State) (v : Long) : (s.setModulo v).params = s.params := rfl
@[simp] theorem State.setModulo_powered (s : State) (v : Long) : (s.setModulo v).powered = s.powered := rfl
@[simp] theorem State.setModulo_fetched (s : State) (v : Long) : (s.setModulo v).fetched = s.fetched := rfl
@[simp] theorem State.setModulo_stepCycles (s : State) (v : Long) : (s.setModulo v).stepCycles = s.stepCycles := rfl

@[simp] theorem State.setAcc_cpu (s : State) (u : Coproc) (p : Int) : (s.setAcc u p).cpu = s.cpu := by cases u <;> rfl
@[simp] theorem State.setAcc_cpuLines (s : State) (u : Coproc) (p : Int) : (s.setAcc u p).cpuLines = s.cpuLines := by cases u <;> rfl
@[simp] theorem State.setAcc_vi (s : State) (u : Coproc) (p : Int) : (s.setAcc u p).vi = s.vi := by cases u <;> rfl
@[simp] theorem State.setAcc_mem (s : State) (u : Coproc) (p : Int) : (s.setAcc u p).mem = s.mem := by cases u <;> rfl
@[simp] theorem State.setAcc_ext (s : State) (u : Coproc) (p : Int) : (s.setAcc u p).ext = s.ext := by cases u <;> rfl
@[simp] theorem State.setAcc_sched (s : State) (u : Coproc) (p : Int) : (s.setAcc u p).sched = s.sched := by cases u <;> rfl
@[simp] theorem State.setAcc_params (s : State) (u : Coproc) (p : Int) : (s.setAcc u p).params = s.params := by cases u <;> rfl
@[simp] theorem State.setAcc_powered (s : State) (u : Coproc) (p : Int) : (s.setAcc u p).powered = s.powered := by cases u <;> rfl
@[simp] theorem State.setAcc_fetched (s : State) (u : Coproc) (p : Int) : (s.setAcc u p).fetched = s.fetched := by cases u <;> rfl
@[simp] theorem State.setAcc_stepCycles (s : State) (u : Coproc) (p : Int) : (s.setAcc u p).stepCycles = s.stepCycles := by cases u <;> rfl

@[simp] theorem State.addAcc_cpu (s : State) (u : Coproc) (p : Int) : (s.addAcc u p).cpu = s.cpu := by cases u <;> rfl
@[simp] theorem State.addAcc_cpuLines (s : State) (u : Coproc) (p : Int) : (s.addAcc u p).cpuLines = s.cpuLines := by cases u <;> rfl
@[simp] theorem State.addAcc_vi (s : State) (u : Coproc) (p : Int) : (s.addAcc u p).vi = s.vi := by cases u <;> rfl
@[simp] theorem State.addAcc_mem (s : State) (u : Coproc) (p : Int) : (s.addAcc u p).mem = s.mem := by cases u <;> rfl
@[simp] theorem State.addAcc_ext (s : State) (u : Coproc) (p : Int) : (s.addAcc u p).ext = s.ext := by cases u <;> rfl
@[simp] theorem State.addAcc_sched (s : State) (u : Coproc) (p : Int) : (s.addAcc u p).sched = s.sched := by cases u <;> rfl
@[simp] theorem State.addAcc_params (s : State) (u : Coproc) (p : Int) : (s.addAcc u p).params = s.params := by cases u <;> rfl
@[simp] theorem State.addAcc_powered (s : State) (u : Coproc) (p : Int) : (s.addAcc u p).powered = s.powered := by cases u <;> rfl
@[simp] theorem State.addAcc_fetched (s : State) (u : Coproc) (p : Int) : (s.addAcc u p).fetched = s.fetched := by cases u <;> rfl
@[simp] theorem State.addAcc_stepCycles (s : State) (u : Coproc) (p : Int) : (s.addAcc u p).stepCycles = s.stepCycles := by cases u <;> rfl

@[simp] theorem State.setPcOf_cpuLines (s : State) (p : Role) (v : Long) : (s.setPcOf p v).cpuLines = s.cpuLines := by rcases p with _ | ⟨_ | _⟩ <;> rfl
@[simp] theorem State.setPcOf_vi (s : State) (p : Role) (v : Long) : (s.setPcOf p v).vi = s.vi := by rcases p with _ | ⟨_ | _⟩ <;> rfl
@[simp] theorem State.setPcOf_mem (s : State) (p : Role) (v : Long) : (s.setPcOf p v).mem = s.mem := by rcases p with _ | ⟨_ | _⟩ <;> rfl
@[simp] theorem State.setPcOf_ext (s : State) (p : Role) (v : Long) : (s.setPcOf p v).ext = s.ext := by rcases p with _ | ⟨_ | _⟩ <;> rfl
@[simp] theorem State.setPcOf_sched (s : State) (p : Role) (v : Long) : (s.setPcOf p v).sched = s.sched := by rcases p with _ | ⟨_ | _⟩ <;> rfl
@[simp] theorem State.setPcOf_params (s : State) (p : Role) (v : Long) : (s.setPcOf p v).params = s.params := by rcases p with _ | ⟨_ | _⟩ <;> rfl
@[simp] theorem State.setPcOf_powered (s : State) (p : Role) (v : Long) : (s.setPcOf p v).powered = s.powered := by rcases p with _ | ⟨_ | _⟩ <;> rfl
@[simp] theorem State.setPcOf_fetched (s : State) (p : Role) (v : Long) : (s.setPcOf p v).fetched = s.fetched := by rcases p with _ | ⟨_ | _⟩ <;> rfl
@[simp] theorem State.setPcOf_stepCycles (s : State) (p : Role) (v : Long) : (s.setPcOf p v).stepCycles = s.stepCycles := by rcases p with _ | ⟨_ | _⟩ <;> rfl

@[simp] theorem State.addCycles_cpuLines (s : State) (p : Role) (c : Nat) : (s.addCycles p c).cpuLines = s.cpuLines := by rcases p with _ | ⟨_ | _⟩ <;> rfl
@[simp] theorem State.addCycles_vi (s : State) (p : Role) (c : Nat) : (s.addCycles p c).vi = s.vi := by rcases p with _ | ⟨_ | _⟩ <;> rfl
@[simp] theorem State.addCycles_mem (s : State) (p : Role) (c : Nat) : (s.addCycles p c).mem = s.mem := by rcases p with _ | ⟨_ | _⟩ <;> rfl
@[simp] theorem State.addCycles_ext (s : State) (p : Role) (c : Nat) : (s.addCycles p c).ext = s.ext := by rcases p with _ | ⟨_ | _⟩ <;> rfl
@[simp] theorem State.addCycles_sched (s : State) (p : Role) (c : Nat) : (s.addCycles p c).sched = s.sched := by rcases p with _ | ⟨_ | _⟩ <;> rfl
@[simp] theorem State.addCycles_params (s : State) (p : Role) (c : Nat) : (s.addCycles p c).params = s.params := by rcases p with _ | ⟨_ | _⟩ <;> rfl
@[simp] theorem State.addCycles_powered (s : State) (p : Role) (c : Nat) : (s.addCycles p c).powered = s.powered := by rcases p with _ | ⟨_ | _⟩ <;> rfl
@[simp] theorem State.addCycles_fetched (s : State) (p : Role) (c : Nat) : (s.addCycles p c).fetched = s.fetched := by rcases p with _ | ⟨_ | _⟩ <;> rfl
@[simp] theorem State.addCycles_stepCycles (s : State) (p : Role) (c : Nat) : (s.addCycles p c).stepCycles = s.stepCycles := by rcases p with _ | ⟨_ | _⟩ <;> rfl


/-! ### What the updates write -/

@[simp] theorem State.setDreg_cpu_d (s : State) (r : Fin 8) (v : Long) : (s.setDreg r v).cpu.d = s.cpu.d.set r v := rfl
@[simp] theorem State.setUsp_cpu_usp (s : State) (v : Long) : (s.setUsp v).cpu.usp = v := rfl
@[simp] theorem State.setPc_cpu_pc (s : State) (v : Long) : (s.setPc v).cpu.pc = evenAddr v := rfl
@[simp] theorem State.setSr_cpu_sr (s : State) (r : StatusReg) : (s.setSr r).cpu.sr = r := rfl
@[simp] theorem State.setCcr_cpu_sr (s : State) (f : Ccr) :
    (s.setCcr f).cpu.sr = { s.cpu.sr with ccr := f } := rfl
@[simp] theorem State.setRun_cpu_run (s : State) (r : CpuRun) : (s.setRun r).cpu.run = r := rfl
@[simp] theorem State.setMem_mem (s : State) (m : Memory) : (s.setMem m).mem = m := rfl
@[simp] theorem State.setHidata_hidata (s : State) (v : Long) : (s.setHidata v).gpu.hidata = v := rfl
@[simp] theorem State.setModulo_modulo (s : State) (v : Long) : (s.setModulo v).dsp.modulo = v := rfl
@[simp] theorem State.setRisc_risc (s : State) (u : Coproc) (r : Risc) : (s.setRisc u r).risc u = r := by
  cases u <;> rfl
theorem State.setRisc_risc_ne (s : State) (u w : Coproc) (r : Risc) (h : w ≠ u) :
    (s.setRisc u r).risc w = s.risc w := by
  cases u <;> cases w <;> first | rfl | exact absurd rfl h
@[simp] theorem State.setMem_risc (s : State) (m : Memory) (u : Coproc) : (s.setMem m).risc u = s.risc u := by
  cases u <;> rfl
@[simp] theorem State.setRisc_self (s : State) (u : Coproc) : s.setRisc u (s.risc u) = s := by cases u <;> rfl
@[simp] theorem State.setRisc_setRisc (s : State) (u : Coproc) (r q : Risc) :
    (s.setRisc u r).setRisc u q = s.setRisc u q := by cases u <;> rfl
@[simp] theorem State.setMem_self (s : State) : s.setMem s.mem = s := rfl

/-! ### Reading registers after updates -/

@[simp] theorem State.ccr_eq (s : State) : s.ccr = s.cpu.sr.ccr := rfl
@[simp] theorem State.setPc_dreg (s : State) (v : Long) (k : Fin 8) : (s.setPc v).dreg k = s.dreg k := rfl
@[simp] theorem State.setPc_areg (s : State) (v : Long) (k : Fin 8) : (s.setPc v).areg k = s.areg k := rfl
@[simp] theorem State.setMem_dreg (s : State) (m : Memory) (k : Fin 8) : (s.setMem m).dreg k = s.dreg k := rfl
@[simp] theorem State.setMem_areg (s : State) (m : Memory) (k : Fin 8) : (s.setMem m).areg k = s.areg k := rfl
@[simp] theorem State.setCcr_dreg (s : State) (f : Ccr) (k : Fin 8) : (s.setCcr f).dreg k = s.dreg k := rfl
@[simp] theorem State.setCcr_areg (s : State) (f : Ccr) (k : Fin 8) : (s.setCcr f).areg k = s.areg k := rfl
@[simp] theorem State.setDreg_areg (s : State) (r : Fin 8) (v : Long) (k : Fin 8) :
    (s.setDreg r v).areg k = s.areg k := rfl

/-- A data register after a write: the one written, or as it was (R21). -/
theorem State.dreg_setDreg (s : State) (r k : Fin 8) (v : Long) :
    (s.setDreg r v).dreg k = if r = k then v else s.dreg k := by
  simp only [State.dreg, State.setDreg]
  by_cases h : r = k
  · subst h; simp
  · simp [h, Fin.val_inj]

@[simp] theorem State.dreg_setDreg_self (s : State) (r : Fin 8) (v : Long) : (s.setDreg r v).dreg r = v := by
  simp [State.dreg_setDreg]

theorem State.dreg_setDreg_ne (s : State) {r k : Fin 8} (v : Long) (h : r ≠ k) :
    (s.setDreg r v).dreg k = s.dreg k := by simp [State.dreg_setDreg, h]

/-- An address register after a write: the one written, or as it was (R22). -/
theorem State.areg_setAreg (s : State) (r k : Fin 8) (v : Long) :
    (s.setAreg r v).areg k = if r = k then v else s.areg k := by
  unfold State.areg State.setAreg
  by_cases hr : r.val < 7 <;> by_cases hk : k.val < 7
  · by_cases h : r = k
    · subst h; simp [hr]
    · have : r.val ≠ k.val := fun e => h (Fin.ext e)
      simp [hr, hk, h, this]
  · have h : r ≠ k := fun e => hk (e ▸ hr)
    simp [hr, hk, h]
  · have h : r ≠ k := fun e => hr (e ▸ hk)
    cases hs : s.cpu.sr.s <;> simp [hr, hk, h]
  · have h : r = k := Fin.ext (by omega)
    subst h
    cases hs : s.cpu.sr.s <;> simp [hr, hs]

@[simp] theorem State.areg_setAreg_self (s : State) (r : Fin 8) (v : Long) : (s.setAreg r v).areg r = v := by
  simp [State.areg_setAreg]

@[simp] theorem State.setAreg_dreg (s : State) (r : Fin 8) (v : Long) (k : Fin 8) :
    (s.setAreg r v).dreg k = s.dreg k := by simp [State.dreg]

/-- A long write of a register replaces it (R21). -/
@[simp] theorem replaceLow_l (old : Long) (v : Long) : replaceLow .l old v = v := rfl

/-! ### The units' registers -/

/-- The active bank depends on IMASK and REGPAGE alone (R31). -/
theorem State.bank1Active_eq (s : State) (u : Coproc) :
    s.bank1Active u = (!(s.risc u).imask && (s.risc u).regpage) := rfl

/-- A register of the active bank after a write: the one written, or as it was (R30). -/
theorem State.rreg_setRreg (s : State) (u : Coproc) (n k : Fin 32) (v : Long) :
    (s.setRreg u n v).rreg u k = if n = k then v else s.rreg u k := by
  unfold State.setRreg State.rreg
  cases hb : s.bank1Active u <;>
    simp_all [State.setBank0, State.setBank1, State.bank1Active_eq, Fin.getElem_fin, Vector.getElem_set, Fin.val_inj]

@[simp] theorem State.rreg_setRreg_self (s : State) (u : Coproc) (n : Fin 32) (v : Long) :
    (s.setRreg u n v).rreg u n = v := by simp [State.rreg_setRreg]

/-- The other bank is not written (R30). -/
@[simp] theorem State.altReg_setRreg (s : State) (u : Coproc) (n k : Fin 32) (v : Long) :
    (s.setRreg u n v).altReg u k = s.altReg u k := by
  unfold State.setRreg State.altReg
  cases hb : s.bank1Active u <;>
    simp_all [State.setBank0, State.setBank1, State.bank1Active_eq]

/-- A register of the other bank after a write (R30). -/
theorem State.altReg_setAltReg (s : State) (u : Coproc) (n k : Fin 32) (v : Long) :
    (s.setAltReg u n v).altReg u k = if n = k then v else s.altReg u k := by
  unfold State.setAltReg State.altReg
  cases hb : s.bank1Active u <;>
    simp_all [State.setBank0, State.setBank1, State.bank1Active_eq, Fin.getElem_fin, Vector.getElem_set, Fin.val_inj]

/-- The active bank is not written by a write of the other (R30). -/
@[simp] theorem State.rreg_setAltReg (s : State) (u : Coproc) (n k : Fin 32) (v : Long) :
    (s.setAltReg u n v).rreg u k = s.rreg u k := by
  unfold State.setAltReg State.rreg
  cases hb : s.bank1Active u <;>
    simp_all [State.setBank0, State.setBank1, State.bank1Active_eq]

@[simp] theorem State.setZN_rreg (s : State) (u : Coproc) (z n : Bool) (k : Fin 32) :
    (s.setZN u z n).rreg u k = s.rreg u k := by cases u <;> rfl

@[simp] theorem State.setZNC_rreg (s : State) (u : Coproc) (z n c : Bool) (k : Fin 32) :
    (s.setZNC u z n c).rreg u k = s.rreg u k := by cases u <;> rfl

@[simp] theorem State.setZN_altReg (s : State) (u : Coproc) (z n : Bool) (k : Fin 32) :
    (s.setZN u z n).altReg u k = s.altReg u k := by cases u <;> rfl

@[simp] theorem State.setZNC_altReg (s : State) (u : Coproc) (z n c : Bool) (k : Fin 32) :
    (s.setZNC u z n c).altReg u k = s.altReg u k := by cases u <;> rfl

/-! ### The status register as a word (R24) -/

/-- Bit `i` of a flag's value. -/
@[simp] theorem getLsbD_flagBit (n k i : Nat) (b : Bool) :
    (flagBit n k b).getLsbD i = (b && decide (i = k) && decide (i < n)) := by
  simp only [flagBit, BitVec.getLsbD_shiftLeft, BitVec.getLsbD_setWidth, BitVec.getLsbD_ofBool]
  by_cases h : i = k
  · subst h; cases b <;> simp; omega
  · cases b <;> simp [h]; omega

/-- Bit `i` of the condition codes (R24). -/
theorem Ccr.getLsbD_toBits (f : Ccr) (i : Nat) :
    f.toBits.getLsbD i =
      ((f.x && decide (i = 4)) || (f.n && decide (i = 3)) || (f.z && decide (i = 2)) || (f.v && decide (i = 1)) ||
        (f.c && decide (i = 0))) := by
  simp only [Ccr.toBits, BitVec.getLsbD_or, getLsbD_flagBit]
  by_cases h : i < 5
  · simp [h]
  · have : i ≠ 4 ∧ i ≠ 3 ∧ i ≠ 2 ∧ i ≠ 1 ∧ i ≠ 0 := by omega
    simp [this]

/-- Bit `i` of SR as a word (R24). -/
theorem StatusReg.getLsbD_toHalf (r : StatusReg) (i : Nat) :
    r.toHalf.getLsbD i =
      ((r.t && decide (i = 15)) || (r.s && decide (i = 13)) || (decide (8 ≤ i) && r.i.getLsbD (i - 8)) ||
        r.ccr.toBits.getLsbD i) := by
  simp only [StatusReg.toHalf, BitVec.getLsbD_or, getLsbD_flagBit, BitVec.getLsbD_shiftLeft, BitVec.getLsbD_setWidth,
    Ccr.getLsbD_toBits]
  by_cases h : i < 16
  · by_cases h8 : i < 8
    · have h8' : ¬ 8 ≤ i := by omega
      simp [h, h8, h8']
    · have h16 : i - 8 < 16 := by omega
      have h8' : 8 ≤ i := by omega
      simp [h, h8, h16, h8']
  · have h3 : r.i.getLsbD (i - 8) = false := BitVec.getLsbD_of_ge _ _ (by omega)
    have : i ≠ 4 ∧ i ≠ 3 ∧ i ≠ 2 ∧ i ≠ 1 ∧ i ≠ 0 ∧ i ≠ 15 ∧ i ≠ 13 := by omega
    simp [h, h3, this]

/-- Condition codes as bits and back (R24). -/
@[simp] theorem Ccr.ofBits_toBits (f : Ccr) : Ccr.ofBits f.toBits = f := by
  obtain ⟨x, n, z, v, c⟩ := f
  simp only [Ccr.ofBits, Ccr.getLsbD_toBits]
  simp

/-- Five bits as condition codes and back (R24). -/
@[simp] theorem Ccr.toBits_ofBits (v : BitVec 5) : (Ccr.ofBits v).toBits = v := by
  apply BitVec.eq_of_getLsbD_eq
  intro i hi
  simp only [Ccr.getLsbD_toBits, Ccr.ofBits]
  interval_cases i <;> simp

/-- Reading SR as a word and writing it back changes nothing (R24). -/
@[simp] theorem StatusReg.ofHalf_toHalf (r : StatusReg) : StatusReg.ofHalf r.toHalf = r := by
  obtain ⟨t, s, i, f⟩ := r
  have hi : BitVec.extractLsb' 8 3 (StatusReg.toHalf ⟨t, s, i, f⟩) = i := by
    apply BitVec.eq_of_getLsbD_eq
    intro k hk
    simp only [BitVec.getLsbD_extractLsb', StatusReg.getLsbD_toHalf, Ccr.getLsbD_toBits, hk]
    interval_cases k <;> simp
  have hf : BitVec.extractLsb' 0 5 (StatusReg.toHalf ⟨t, s, i, f⟩) = f.toBits := by
    apply BitVec.eq_of_getLsbD_eq
    intro k hk
    simp only [BitVec.getLsbD_extractLsb', StatusReg.getLsbD_toHalf, Ccr.getLsbD_toBits, hk]
    interval_cases k <;> simp
  simp only [StatusReg.ofHalf, hi, hf, StatusReg.getLsbD_toHalf, Ccr.getLsbD_toBits, Ccr.ofBits_toBits]
  simp

/-- A write of SR keeps the bits that exist: `v & 0xA71F` (R24). -/
theorem StatusReg.toHalf_ofHalf (v : Half) : (StatusReg.ofHalf v).toHalf = v &&& 0xA71F := by
  apply BitVec.eq_of_getLsbD_eq
  intro i hi
  rw [StatusReg.getLsbD_toHalf]
  simp only [StatusReg.ofHalf, Ccr.toBits_ofBits, BitVec.getLsbD_extractLsb', BitVec.getLsbD_and]
  interval_cases i <;> simp

/-- Bit 0 of an address that went into a program counter is 0 (R23). -/
@[simp] theorem evenAddr_getLsbD_zero (v : Long) : (evenAddr v).getLsbD 0 = false := by simp [evenAddr]

/-- Clearing bit 0 twice is clearing it once (R23). -/
@[simp] theorem evenAddr_evenAddr (v : Long) : evenAddr (evenAddr v) = evenAddr v := by
  simp [evenAddr, BitVec.and_assoc]

end Sys2Proof.Machine
end

