-- ==== Sys2Proof/Laws/Bus.lean ====
section
/-! SUPPORT. What a bus access can do, said once: what a read and a write never change, what they answer and store in a
byte array, and that they keep memory's canonical form and the units' program counters even. -/
namespace Sys2Proof.Machine

/-! ### Lines -/

section
variable (s : State) (p : Role) (k : Nat) (l : Line)

@[simp] theorem State.setLine_cpu : (s.setLine p k l).cpu = s.cpu := by
  rcases p with _ | ⟨_ | _⟩ <;> simp only [State.setLine] <;> split <;> rfl
@[simp] theorem State.setLine_risc (u : Coproc) : (s.setLine p k l).risc u = s.risc u := by
  rcases p with _ | ⟨_ | _⟩ <;> simp only [State.setLine] <;> split <;> cases u <;> rfl
@[simp] theorem State.setLine_gpuCore : (s.setLine p k l).gpu.core = s.gpu.core := State.setLine_risc s p k l .gpu
@[simp] theorem State.setLine_dspCore : (s.setLine p k l).dsp.core = s.dsp.core := State.setLine_risc s p k l .dsp
@[simp] theorem State.setLine_hidata : (s.setLine p k l).gpu.hidata = s.gpu.hidata := by
  rcases p with _ | ⟨_ | _⟩ <;> simp only [State.setLine] <;> split <;> rfl
@[simp] theorem State.setLine_gpuAcc : (s.setLine p k l).gpu.acc = s.gpu.acc := by
  rcases p with _ | ⟨_ | _⟩ <;> simp only [State.setLine] <;> split <;> rfl
@[simp] theorem State.setLine_modulo : (s.setLine p k l).dsp.modulo = s.dsp.modulo := by
  rcases p with _ | ⟨_ | _⟩ <;> simp only [State.setLine] <;> split <;> rfl
@[simp] theorem State.setLine_dspAcc : (s.setLine p k l).dsp.acc = s.dsp.acc := by
  rcases p with _ | ⟨_ | _⟩ <;> simp only [State.setLine] <;> split <;> rfl
@[simp] theorem State.setLine_vi : (s.setLine p k l).vi = s.vi := by
  rcases p with _ | ⟨_ | _⟩ <;> simp only [State.setLine] <;> split <;> rfl
@[simp] theorem State.setLine_mem : (s.setLine p k l).mem = s.mem := by
  rcases p with _ | ⟨_ | _⟩ <;> simp only [State.setLine] <;> split <;> rfl
@[simp] theorem State.setLine_ext : (s.setLine p k l).ext = s.ext := by
  rcases p with _ | ⟨_ | _⟩ <;> simp only [State.setLine] <;> split <;> rfl
@[simp] theorem State.setLine_sched : (s.setLine p k l).sched = s.sched := by
  rcases p with _ | ⟨_ | _⟩ <;> simp only [State.setLine] <;> split <;> rfl
@[simp] theorem State.setLine_params : (s.setLine p k l).params = s.params := by
  rcases p with _ | ⟨_ | _⟩ <;> simp only [State.setLine] <;> split <;> rfl
@[simp] theorem State.setLine_fetched : (s.setLine p k l).fetched = s.fetched := by
  rcases p with _ | ⟨_ | _⟩ <;> simp only [State.setLine] <;> split <;> rfl
@[simp] theorem State.setLine_stepCycles : (s.setLine p k l).stepCycles = s.stepCycles := by
  rcases p with _ | ⟨_ | _⟩ <;> simp only [State.setLine] <;> split <;> rfl

end

/-- The number of lines of a processor (R51). -/
def lineCount : Role → Nat
  | .cpu => 5
  | .risc .gpu => 5
  | .risc .dsp => 6

/-- A line after a line was changed: the one changed, where it exists, or as it was (R603). -/
theorem State.line_setLine (s : State) (p q : Role) (k j : Nat) (l : Line) :
    (s.setLine p k l).line q j = if q = p ∧ j = k ∧ k < lineCount p then l else s.line q j := by
  by_cases hk : k < lineCount p
  · simp only [hk, and_true]
    rcases p with _ | ⟨_ | _⟩ <;> simp only [lineCount] at hk <;> rw [State.setLine, dif_pos hk] <;>
      rcases q with _ | ⟨_ | _⟩ <;> simp only [State.line] <;> grind
  · simp only [hk, and_false, if_false]
    rcases p with _ | ⟨_ | _⟩ <;> simp only [lineCount] at hk <;> rw [State.setLine, dif_neg hk]

/-! ### What no access changes -/

/-- What no bus access changes, a device's handler included (R127, R34 to R42): the CPU, the scheduler, the parameters,
the scratch fields, the banks, `en`, cycle counters and REMAIN of the units, the accumulators. -/
structure BusKeeps (s t : State) : Prop where
  cpu : t.cpu = s.cpu
  sched : t.sched = s.sched
  params : t.params = s.params
  fetched : t.fetched = s.fetched
  stepCycles : t.stepCycles = s.stepCycles
  bank0 : ∀ u, (t.risc u).bank0 = (s.risc u).bank0
  bank1 : ∀ u, (t.risc u).bank1 = (s.risc u).bank1
  en : ∀ u, (t.risc u).en = (s.risc u).en
  cycles : ∀ u, (t.risc u).cycles = (s.risc u).cycles
  remain : ∀ u, (t.risc u).remain = (s.risc u).remain
  gpuAcc : t.gpu.acc = s.gpu.acc
  dspAcc : t.dsp.acc = s.dsp.acc

/-- What a bus read does not change, ExtDevice's side effects included (R127, R132): all the above, and the rest of the
units' registers and VI. -/
structure ReadKeeps (s t : State) : Prop where
  cpu : t.cpu = s.cpu
  sched : t.sched = s.sched
  params : t.params = s.params
  fetched : t.fetched = s.fetched
  stepCycles : t.stepCycles = s.stepCycles
  risc : ∀ u, t.risc u = s.risc u
  hidata : t.gpu.hidata = s.gpu.hidata
  gpuAcc : t.gpu.acc = s.gpu.acc
  modulo : t.dsp.modulo = s.dsp.modulo
  dspAcc : t.dsp.acc = s.dsp.acc
  vi : t.vi = s.vi

theorem BusKeeps.refl (s : State) : BusKeeps s s :=
  ⟨rfl, rfl, rfl, rfl, rfl, fun _ => rfl, fun _ => rfl, fun _ => rfl, fun _ => rfl, fun _ => rfl, rfl, rfl⟩

theorem BusKeeps.trans {s t w : State} (h : BusKeeps s t) (g : BusKeeps t w) : BusKeeps s w :=
  ⟨g.cpu.trans h.cpu, g.sched.trans h.sched, g.params.trans h.params, g.fetched.trans h.fetched,
    g.stepCycles.trans h.stepCycles, fun u => (g.bank0 u).trans (h.bank0 u), fun u => (g.bank1 u).trans (h.bank1 u),
    fun u => (g.en u).trans (h.en u), fun u => (g.cycles u).trans (h.cycles u),
    fun u => (g.remain u).trans (h.remain u), g.gpuAcc.trans h.gpuAcc, g.dspAcc.trans h.dspAcc⟩

theorem ReadKeeps.refl (s : State) : ReadKeeps s s :=
  ⟨rfl, rfl, rfl, rfl, rfl, fun _ => rfl, rfl, rfl, rfl, rfl, rfl⟩

theorem ReadKeeps.trans {s t w : State} (h : ReadKeeps s t) (g : ReadKeeps t w) : ReadKeeps s w :=
  ⟨g.cpu.trans h.cpu, g.sched.trans h.sched, g.params.trans h.params, g.fetched.trans h.fetched,
    g.stepCycles.trans h.stepCycles, fun u => (g.risc u).trans (h.risc u), g.hidata.trans h.hidata,
    g.gpuAcc.trans h.gpuAcc, g.modulo.trans h.modulo, g.dspAcc.trans h.dspAcc, g.vi.trans h.vi⟩

theorem ReadKeeps.busKeeps {s t : State} (h : ReadKeeps s t) : BusKeeps s t := by
  constructor <;> first | (intro u; rw [h.risc u]) | (cases h; assumption)

theorem BusKeeps.defaultDevices {s t : State} (h : BusKeeps s t) (g : s.defaultDevices) : t.defaultDevices := by
  unfold State.defaultDevices at *; rw [h.params]; exact g

theorem ReadKeeps.defaultDevices {s t : State} (h : ReadKeeps s t) (g : s.defaultDevices) : t.defaultDevices :=
  h.busKeeps.defaultDevices g

theorem setLine_readKeeps (s : State) (p : Role) (k : Nat) (l : Line) : ReadKeeps s (s.setLine p k l) := by
  constructor <;> simp

theorem setMem_readKeeps (s : State) (m : Memory) : ReadKeeps s (s.setMem m) := by
  constructor <;> simp

theorem extRaises_readKeeps (l : List (Role × Nat)) (s : State) : ReadKeeps s (extRaises l s) := by
  induction l generalizing s with
  | nil => exact .refl s
  | cons c rest ih => exact (setLine_readKeeps s c.1 c.2 _).trans (ih _)

theorem setExt_readKeeps (s : State) (m : Memory) (x : ExtState) : ReadKeeps s { s with mem := m, ext := x } :=
  ⟨rfl, rfl, rfl, rfl, rfl, fun u => by cases u <;> rfl, rfl, rfl, rfl, rfl, rfl⟩

/-- What a function of ExtDevice answered changes only memory, the device's own state and pending flags (R127). -/
theorem extEffect_readKeeps (r : ExtResponse) (s : State) : ReadKeeps s (extEffect r s) :=
  (setExt_readKeeps s _ _).trans (extRaises_readKeeps _ _)

theorem extCall_readKeeps (c : ExtCall) (s : State) : ReadKeeps s (extCall c s) := by
  unfold extCall
  split
  · exact .refl s
  · exact extEffect_readKeeps _ s

theorem extWrite_readKeeps (unit ua : Nat) (v : Long) (s : State) : ReadKeeps s (extWrite unit ua v s) := by
  unfold extWrite
  split
  · exact setExt_readKeeps s s.mem _
  · exact extEffect_readKeeps _ s

/-- The default device's `read` and `tick` have no effect (R127). -/
theorem extCall_default (c : ExtCall) {s : State} (h : s.defaultDevices) : extCall c s = s := by
  unfold extCall; rw [h]

theorem regRead_readKeeps (r : DevReg) (s : State) : ReadKeeps s (regRead r s).2 := by
  cases r <;> first | exact .refl s | exact extCall_readKeeps _ s

theorem deviceRead_readKeeps (b : Backing) (sz : Size) (a : Nat) (s : State) : ReadKeeps s (deviceRead b sz a s).2 := by
  unfold deviceRead
  split
  · exact regRead_readKeeps _ s
  · exact (regRead_readKeeps _ s).trans (regRead_readKeeps _ _)

theorem busRead_readKeeps (sz : Size) (a : Nat) (s : State) : ReadKeeps s (busRead sz a s).2 := by
  unfold busRead
  split
  · exact .refl s
  · split
    · split
      · exact .refl s
      · exact deviceRead_readKeeps _ sz a s
    · exact .refl s

/-- What a read leaves as it was (R132, R127). -/
theorem memRead_readKeeps (p : Role) (sz : Size) (addr : Long) (s : State) :
    ReadKeeps s (memRead p sz addr s).2 := by
  cases sz <;> cases p
  case l.cpu => exact (busRead_readKeeps .w _ s).trans (busRead_readKeeps .w _ _)
  all_goals exact busRead_readKeeps _ _ s

/-- With the default devices a read changes nothing (R127, R132). -/
theorem memRead_state (p : Role) (sz : Size) (addr : Long) (s : State) (h : s.defaultDevices) :
    (memRead p sz addr s).2 = s := by
  have hr : ∀ r (s : State), s.defaultDevices → (regRead r s).2 = s := by
    intro r s h; cases r <;> first | rfl | exact extCall_default _ h
  have hd : ∀ b sz a (s : State), s.defaultDevices → (deviceRead b sz a s).2 = s := by
    intro b sz a s h
    unfold deviceRead
    split
    · exact hr _ s h
    · simp only [hr _ s h]
  have hb : ∀ sz a (s : State), s.defaultDevices → (busRead sz a s).2 = s := by
    intro sz a s h
    unfold busRead
    split
    · rfl
    · split
      · split
        · rfl
        · exact hd _ sz a s h
      · rfl
  cases sz <;> cases p <;> first | exact hb _ _ s h | simp only [memRead, hb _ _ s h]

/-! ### Writes -/

theorem setRisc_busKeeps (s : State) (u : Coproc) (r : Risc) (h0 : r.bank0 = (s.risc u).bank0)
    (h1 : r.bank1 = (s.risc u).bank1) (h2 : r.en = (s.risc u).en) (h3 : r.cycles = (s.risc u).cycles)
    (h4 : r.remain = (s.risc u).remain) : BusKeeps s (s.setRisc u r) := by
  cases u <;> constructor <;> first | rfl | (intro w; cases w <;> first | rfl | assumption)

theorem BusKeeps.setLine {s t : State} (h : BusKeeps s t) (p : Role) (k : Nat) (l : Line) :
    BusKeeps s (t.setLine p k l) := h.trans (setLine_readKeeps t p k l).busKeeps

theorem BusKeeps.setEnabled {s t : State} (h : BusKeeps s t) (p : Role) (k : Nat) (b : Bool) :
    BusKeeps s (setEnabled p k b t) := h.setLine _ _ _

theorem BusKeeps.raiseLine {s t : State} (h : BusKeeps s t) (p : Role) (k : Nat) :
    BusKeeps s (raiseLine p k t) := h.setLine _ _ _

theorem BusKeeps.clearLineIf {s t : State} (h : BusKeeps s t) (p : Role) (k : Nat) (b : Bool) :
    BusKeeps s (clearLineIf p k b t) := by
  unfold Machine.clearLineIf
  split
  · exact h.setLine _ _ _
  · exact h

theorem writeInt1_busKeeps (v : Long) (s : State) : BusKeeps s (writeInt1 v s) := by
  unfold writeInt1
  iterate 5 apply BusKeeps.clearLineIf
  iterate 5 apply BusKeeps.setEnabled
  exact .refl s

theorem writeFlags_busKeeps (u : Coproc) (v : Long) (s : State) : BusKeeps s (writeFlags u v s) := by
  unfold writeFlags
  iterate 6 apply BusKeeps.clearLineIf
  refine BusKeeps.trans ?_ (setRisc_busKeeps _ u _ rfl rfl rfl rfl rfl)
  iterate 6 apply BusKeeps.setEnabled
  exact setRisc_busKeeps s u _ rfl rfl rfl rfl rfl

theorem writeCtrl_busKeeps (u : Coproc) (v : Long) (s : State) : BusKeeps s (writeCtrl u v s) := by
  have h : BusKeeps s (s.setRisc u { s.risc u with singleStep := v.getLsbD 3, busHog := v.getLsbD 11 }) :=
    setRisc_busKeeps s u _ rfl rfl rfl rfl rfl
  unfold writeCtrl
  refine BusKeeps.trans ?_ (setRisc_busKeeps _ u _ rfl rfl rfl rfl rfl)
  split <;> split
  · exact (h.raiseLine _ _).raiseLine _ _
  · exact h.raiseLine _ _
  · exact h.raiseLine _ _
  · exact h

theorem regWrite_busKeeps (r : DevReg) (v : Long) (s : State) : BusKeeps s (regWrite r v s) := by
  cases r with
  | vi => constructor <;> first | rfl | (intro w; cases w <;> rfl)
  | int1 => exact writeInt1_busKeeps v s
  | flags u => exact writeFlags_busKeeps u v s
  | mtxc u => exact setRisc_busKeeps s u _ rfl rfl rfl rfl rfl
  | mtxa u => exact setRisc_busKeeps s u _ rfl rfl rfl rfl rfl
  | endian u => exact setRisc_busKeeps s u _ rfl rfl rfl rfl rfl
  | pcPort u => exact setRisc_busKeeps s u _ rfl rfl rfl rfl rfl
  | ctrl u => exact writeCtrl_busKeeps u v s
  | hidataOrMod u =>
    cases u <;> constructor <;> first | rfl | (intro w; cases w <;> rfl)
  | remain u => exact setRisc_busKeeps s u _ rfl rfl rfl rfl rfl
  | machi => exact .refl s
  | ext unit ua =>
    exact (extWrite_readKeeps unit ua v s).busKeeps

theorem busWrite_busKeeps (sz : Size) (a : Nat) (v : BitVec sz.bits) (s : State) : BusKeeps s (busWrite sz a v s) := by
  have hd : ∀ b, BusKeeps s (deviceWrite b sz a v s) := by
    intro b
    unfold deviceWrite
    split
    · exact regWrite_busKeeps _ _ s
    · exact (regWrite_busKeeps _ _ s).trans (regWrite_busKeeps _ _ _)
  unfold busWrite
  split
  · exact .refl s
  · split
    · split
      · exact (setMem_readKeeps s _).busKeeps
      · exact hd _
    · exact .refl s

/-- What a write leaves as it was, wherever it goes. -/
theorem memWrite_busKeeps (p : Role) (sz : Size) (addr : Long) (v : BitVec sz.bits) (s : State) :
    BusKeeps s (memWrite p sz addr v s) := by
  cases sz <;> cases p
  case l.cpu => exact (busWrite_busKeeps .w _ _ s).trans (busWrite_busKeeps .w _ _ _)
  all_goals exact busWrite_busKeeps _ _ _ s

end Sys2Proof.Machine
end

