-- ==== Sys2Proof/Laws/Ops.lean ====
section
/-! SUPPORT. The shared operations over memory and the CPU, said once each: what an access does with the CPU's own
state, which bytes a write stores to, the fetch, the stack, taking an exception, the interrupt entry of a unit. -/
namespace Sys2Proof.Machine

/-! ### Accesses do not look at the CPU -/

/-- `s` with another CPU and other scratch fields: the parts that no access reads. -/
def State.patch (s : State) (c : Cpu) (f : List Half) (n : Nat) : State :=
  { s with cpu := c, fetched := f, stepCycles := n }

section
variable (s : State) (c : Cpu) (f : List Half) (n : Nat)

@[simp] theorem State.patch_cpu : (s.patch c f n).cpu = c := rfl
@[simp] theorem State.patch_gpu : (s.patch c f n).gpu = s.gpu := rfl
@[simp] theorem State.patch_dsp : (s.patch c f n).dsp = s.dsp := rfl
@[simp] theorem State.patch_cpuLines : (s.patch c f n).cpuLines = s.cpuLines := rfl
@[simp] theorem State.patch_vi : (s.patch c f n).vi = s.vi := rfl
@[simp] theorem State.patch_mem : (s.patch c f n).mem = s.mem := rfl
@[simp] theorem State.patch_ext : (s.patch c f n).ext = s.ext := rfl
@[simp] theorem State.patch_sched : (s.patch c f n).sched = s.sched := rfl
@[simp] theorem State.patch_params : (s.patch c f n).params = s.params := rfl
@[simp] theorem State.patch_powered : (s.patch c f n).powered = s.powered := rfl
@[simp] theorem State.patch_fetched : (s.patch c f n).fetched = f := rfl
@[simp] theorem State.patch_stepCycles : (s.patch c f n).stepCycles = n := rfl
@[simp] theorem State.patch_risc (u : Coproc) : (s.patch c f n).risc u = s.risc u := by cases u <;> rfl
@[simp] theorem State.patch_line (p : Role) (k : Nat) : (s.patch c f n).line p k = s.line p k := by
  rcases p with _ | ⟨_ | _⟩ <;> rfl
@[simp] theorem State.patch_patch (c' : Cpu) (f' : List Half) (n' : Nat) :
    (s.patch c f n).patch c' f' n' = s.patch c' f' n' := rfl
@[simp] theorem State.patch_self : s.patch s.cpu s.fetched s.stepCycles = s := rfl

theorem setLine_patch (p : Role) (k : Nat) (l : Line) :
    (s.patch c f n).setLine p k l = (s.setLine p k l).patch c f n := by
  rcases p with _ | ⟨_ | _⟩ <;> simp only [State.setLine] <;> split <;> rfl

theorem raiseLine_patch (p : Role) (k : Nat) : raiseLine p k (s.patch c f n) = (raiseLine p k s).patch c f n := by
  simp [raiseLine, setLine_patch]

theorem setEnabled_patch (p : Role) (k : Nat) (b : Bool) :
    setEnabled p k b (s.patch c f n) = (setEnabled p k b s).patch c f n := by
  simp [setEnabled, setLine_patch]

theorem clearLineIf_patch (p : Role) (k : Nat) (b : Bool) :
    clearLineIf p k b (s.patch c f n) = (clearLineIf p k b s).patch c f n := by
  unfold clearLineIf
  split <;> simp [clearLine, setLine_patch]

theorem setRisc_patch (u : Coproc) (r : Risc) : (s.patch c f n).setRisc u r = (s.setRisc u r).patch c f n := by
  cases u <;> rfl

theorem fetchWordAt_patch (a : Long) : fetchWordAt a (s.patch c f n) = fetchWordAt a s := rfl

end

/-! The default device does not look at the machine's state, so with it no access looks at the CPU (R127). -/

section
variable (s : State) (c : Cpu) (f : List Half) (n : Nat) (h : s.defaultDevices)
include h

theorem regValue_patch (r : DevReg) : regValue r (s.patch c f n) = regValue r s := by
  cases r
  case ext unit ua => simp only [regValue, extValue, State.patch_params, State.patch_ext]; rw [h]
  case hidataOrMod u => cases u <;> rfl
  all_goals rfl

theorem mergeBase_patch (r : DevReg) : mergeBase r (s.patch c f n) = mergeBase r s := by
  unfold mergeBase
  split
  · simp [int1Enabled]
  · exact regValue_patch s c f n h _

theorem regRead_patch (r : DevReg) :
    regRead r (s.patch c f n) = ((regRead r s).1, (regRead r s).2.patch c f n) := by
  cases r
  case ext unit ua =>
    have hp : (s.patch c f n).defaultDevices := h
    simp only [regRead, extCall_default _ h, extCall_default _ hp]
    exact Prod.ext (regValue_patch s c f n h (.ext unit ua)) rfl
  all_goals
    simp only [regRead]
    rw [regValue_patch s c f n h]

theorem regWrite_patch (r : DevReg) (v : Long) :
    regWrite r v (s.patch c f n) = (regWrite r v s).patch c f n := by
  cases r with
  | int1 => simp only [regWrite, writeInt1, setEnabled_patch, clearLineIf_patch]
  | flags u =>
    simp only [regWrite, writeFlags, setEnabled_patch, clearLineIf_patch, setRisc_patch, State.patch_risc]
  | ctrl u =>
    simp only [regWrite, writeCtrl, setRisc_patch, State.patch_risc]
    split <;> split <;> simp only [raiseLine_patch, setRisc_patch, State.patch_risc]
  | hidataOrMod u => cases u <;> rfl
  | ext unit ua => simp only [regWrite, extWrite, State.patch_params]; rw [h]; rfl
  | vi => rfl
  | machi => rfl
  | mtxc u => cases u <;> rfl
  | mtxa u => cases u <;> rfl
  | endian u => cases u <;> rfl
  | pcPort u => cases u <;> rfl
  | remain u => cases u <;> rfl

theorem busRead_patch (sz : Size) (a : Nat) :
    busRead sz a (s.patch c f n) = ((busRead sz a s).1, (busRead sz a s).2.patch c f n) := by
  have hd : ∀ b, deviceRead b sz a (s.patch c f n) = ((deviceRead b sz a s).1, (deviceRead b sz a s).2.patch c f n) := by
    intro b
    unfold deviceRead
    split
    · simp only [regRead_patch s c f n h]
    · simp only [regRead_patch s c f n h, regRead_patch _ c f n ((regRead_readKeeps _ s).defaultDevices h)]
  unfold busRead
  split
  · rfl
  · split
    · split
      · rfl
      · exact hd _
    · rfl

theorem busWrite_patch (sz : Size) (a : Nat) (v : BitVec sz.bits) :
    busWrite sz a v (s.patch c f n) = (busWrite sz a v s).patch c f n := by
  have hd : ∀ b, deviceWrite b sz a v (s.patch c f n) = (deviceWrite b sz a v s).patch c f n := by
    intro b
    unfold deviceWrite
    split
    · simp only [regWrite_patch s c f n h, mergeBase_patch s c f n h]
    · simp only [regWrite_patch s c f n h, regWrite_patch _ c f n ((regWrite_busKeeps _ _ s).defaultDevices h)]
  unfold busWrite
  split
  · rfl
  · split
    · split
      · rfl
      · exact hd _
    · rfl

/-- A read does not depend on the CPU's registers or the scratch fields. -/
theorem memRead_patch (p : Role) (sz : Size) (a : Long) :
    memRead p sz a (s.patch c f n) = ((memRead p sz a s).1, (memRead p sz a s).2.patch c f n) := by
  cases sz <;> cases p
  case l.cpu =>
    simp only [memRead, busRead_patch s c f n h, busRead_patch _ c f n ((busRead_readKeeps _ _ s).defaultDevices h)]
  all_goals simp only [memRead, busRead_patch s c f n h]

/-- A write does not depend on the CPU's registers or the scratch fields. -/
theorem memWrite_patch (p : Role) (sz : Size) (a : Long) (v : BitVec sz.bits) :
    memWrite p sz a v (s.patch c f n) = (memWrite p sz a v s).patch c f n := by
  cases sz <;> cases p
  case l.cpu =>
    exact (congrArg _ (busWrite_patch s c f n h .w _ _)).trans
      (busWrite_patch _ c f n ((busWrite_busKeeps .w _ _ s).defaultDevices h) .w _ _)
  all_goals exact busWrite_patch s c f n h _ _ _

end

/-! ### The bytes a write stores to -/

/-- With the default devices a device register's write stores to no byte of memory (R127). -/
theorem regWrite_default (r : DevReg) (v : Long) {s : State} (h : s.defaultDevices) :
    (regWrite r v s).mem = s.mem ∧ (regWrite r v s).defaultDevices := by
  refine ⟨?_, (regWrite_busKeeps r v s).defaultDevices h⟩
  have hc : ∀ p k b (s : State), (clearLineIf p k b s).mem = s.mem := by
    intro p k b s; unfold clearLineIf; split <;> simp [clearLine]
  have he : ∀ p k b (s : State), (setEnabled p k b s).mem = s.mem := by intro p k b s; simp [setEnabled]
  have hr : ∀ u q (s : State), (s.setRisc u q).mem = s.mem := by intro u q s; cases u <;> rfl
  cases r with
  | int1 => simp [regWrite, writeInt1, hc, he]
  | flags u => simp [regWrite, writeFlags, hc, he]
  | ctrl u =>
    simp only [regWrite, writeCtrl]
    split <;> split <;> simp [raiseLine]
  | ext unit ua => simp only [regWrite, extWrite]; rw [h]
  | hidataOrMod u => cases u <;> rfl
  | vi => rfl
  | machi => rfl
  | mtxc u => exact hr u _ s
  | mtxa u => exact hr u _ s
  | endian u => exact hr u _ s
  | pcPort u => cases u <;> rfl
  | remain u => exact hr u _ s

/-- With the default devices a bus write stores to its bytes or to none. -/
theorem busWrite_default (sz : Size) (a : Nat) (v : BitVec sz.bits) {s : State} (h : s.defaultDevices) :
    ((busWrite sz a v s).mem = s.mem ∨ (busWrite sz a v s).mem = s.mem.writeAt sz a v) ∧
      (busWrite sz a v s).defaultDevices := by
  have hd : ∀ b, (deviceWrite b sz a v s).mem = s.mem ∧ (deviceWrite b sz a v s).defaultDevices := by
    intro b
    unfold deviceWrite
    split
    · exact regWrite_default _ _ h
    · have g := regWrite_default (devRegAt b a) ((v.setWidth 32) >>> 16) h
      have k := regWrite_default (devRegAt b (a + 2)) ((v.setWidth 32) &&& 0xFFFF) g.2
      exact ⟨k.1.trans g.1, k.2⟩
  unfold busWrite
  split
  · exact ⟨.inl rfl, h⟩
  · split
    · split
      · exact ⟨.inr rfl, h⟩
      · exact ⟨.inl (hd _).1, (hd _).2⟩
    · exact ⟨.inl rfl, h⟩

theorem mem_bytesFrom {sz : Size} {a b : Nat} : b ∈ bytesFrom sz a ↔ a ≤ b ∧ b < a + sz.bytes := by
  simp only [bytesFrom, List.mem_map, List.mem_range]
  constructor
  · rintro ⟨k, hk, rfl⟩; omega
  · intro h; exact ⟨b - a, by omega, by omega⟩

theorem busWrite_outside (sz : Size) (a : Nat) (v : BitVec sz.bits) {s : State} (h : s.defaultDevices)
    (hw : s.mem.wf = true) : MemSameOutside (bytesFrom sz a) s (busWrite sz a v s) ∧ (busWrite sz a v s).mem.wf = true := by
  rcases (busWrite_default sz a v h).1 with e | e
  · exact ⟨fun b _ => by rw [e], by rw [e]; exact hw⟩
  · refine ⟨fun b hb => ?_, by rw [e]; exact Memory.wf_writeAt hw sz a v⟩
    rw [e]
    refine Memory.read_writeAt_outside hw sz a b v ?_
    rw [mem_bytesFrom] at hb
    omega

/-- With the default devices a write leaves every byte of memory outside its access, and the devices stay the default
ones (R107, R127). -/
theorem memWrite_outside (p : Role) (sz : Size) (addr : Long) (v : BitVec sz.bits) {s : State}
    (h : s.defaultDevices) (hw : s.mem.wf = true) :
    MemSameOutside (accessBytes p sz addr) s (memWrite p sz addr v s) ∧ (memWrite p sz addr v s).mem.wf = true ∧
      (memWrite p sz addr v s).defaultDevices := by
  have one : ∀ (sz : Size) a (v : BitVec sz.bits), MemSameOutside (bytesFrom sz a) s (busWrite sz a v s) ∧
      (busWrite sz a v s).mem.wf = true ∧ (busWrite sz a v s).defaultDevices := fun sz a v =>
    ⟨(busWrite_outside sz a v h hw).1, (busWrite_outside sz a v h hw).2, (busWrite_default sz a v h).2⟩
  cases sz <;> cases p
  case l.cpu =>
    have g := one .w (alignedAddr .w addr) (v.extractLsb' 16 16)
    have k := busWrite_outside .w (alignedAddr .w (addr + 2)) (v.extractLsb' 0 16) g.2.2 g.2.1
    refine ⟨fun b hb => ?_, k.2, (busWrite_default .w _ _ g.2.2).2⟩
    simp only [accessBytes, List.mem_append, not_or] at hb
    exact (k.1 b hb.2).trans (g.1 b hb.1)
  all_goals exact one _ _ _

/-! ### States that differ in the CPU and the scratch fields only -/

/-- `t` is `s` but for the CPU and the scratch fields. -/
def Same (s t : State) : Prop := t = s.patch t.cpu t.fetched t.stepCycles

theorem Same.refl (s : State) : Same s s := rfl

theorem Same.trans {s t w : State} (h : Same s t) (g : Same t w) : Same s w := by
  unfold Same at *
  rw [h] at g
  exact g

theorem Same.symm {s t : State} (h : Same s t) : Same t s := by
  unfold Same at *
  rw [h]
  rfl

theorem same_patch (s : State) (c : Cpu) (f : List Half) (n : Nat) : Same s (s.patch c f n) := rfl

section
variable {s t : State} (h : Same s t)
include h

theorem Same.mem : t.mem = s.mem := by rw [h]; rfl
theorem Same.ext : t.ext = s.ext := by rw [h]; rfl
theorem Same.gpu : t.gpu = s.gpu := by rw [h]; rfl
theorem Same.dsp : t.dsp = s.dsp := by rw [h]; rfl
theorem Same.cpuLines : t.cpuLines = s.cpuLines := by rw [h]; rfl
theorem Same.vi : t.vi = s.vi := by rw [h]; rfl
theorem Same.sched : t.sched = s.sched := by rw [h]; rfl
theorem Same.params : t.params = s.params := by rw [h]; rfl
theorem Same.risc (u : Coproc) : t.risc u = s.risc u := by rw [h]; simp
theorem Same.line (p : Role) (k : Nat) : t.line p k = s.line p k := by rw [h]; simp
theorem Same.defaultDevices (g : s.defaultDevices) : t.defaultDevices := by
  unfold State.defaultDevices at *; rw [Same.params h]; exact g
theorem Same.memRead (g : s.defaultDevices) (p : Role) (sz : Size) (a : Long) :
    (memRead p sz a t).1 = (Machine.memRead p sz a s).1 := by
  rw [h, memRead_patch _ _ _ _ g]
theorem Same.memRead_state (g : s.defaultDevices) (p : Role) (sz : Size) (a : Long) :
    Same (Machine.memRead p sz a s).2 (Machine.memRead p sz a t).2 := by
  rw [h, memRead_patch _ _ _ _ g]; exact same_patch _ _ _ _
theorem Same.memWrite (g : s.defaultDevices) (p : Role) (sz : Size) (a : Long) (v : BitVec sz.bits) :
    Same (Machine.memWrite p sz a v s) (Machine.memWrite p sz a v t) := by
  rw [h, memWrite_patch _ _ _ _ g]; exact same_patch _ _ _ _
theorem Same.fetchWordAt (a : Long) : fetchWordAt a t = Machine.fetchWordAt a s := by
  rw [h, fetchWordAt_patch]

end

theorem same_setDreg (s : State) (r : Fin 8) (v : Long) : Same s (s.setDreg r v) := rfl
theorem same_setDregAt (s : State) (sz : Size) (r : Fin 8) (v : BitVec sz.bits) : Same s (s.setDregAt sz r v) := rfl
theorem same_setAreg (s : State) (r : Fin 8) (v : Long) : Same s (s.setAreg r v) := by
  unfold State.setAreg; split <;> [rfl; (split <;> rfl)]
theorem same_setUsp (s : State) (v : Long) : Same s (s.setUsp v) := rfl
theorem same_setPc (s : State) (v : Long) : Same s (s.setPc v) := rfl
theorem same_setSr (s : State) (r : StatusReg) : Same s (s.setSr r) := rfl
theorem same_setCcr (s : State) (f : Ccr) : Same s (s.setCcr f) := rfl
theorem same_setRun (s : State) (r : CpuRun) : Same s (s.setRun r) := rfl
theorem same_addStepCycles (s : State) (c : Nat) : Same s (s.addStepCycles c) := rfl
theorem same_chargeFetched (s : State) (p : Role) : Same s (s.chargeFetched p) := rfl

theorem OnlyCpu.refl (s : State) : OnlyCpu s s := rfl

theorem OnlyCpu.trans {s t w : State} (h : OnlyCpu s t) (g : OnlyCpu t w) : OnlyCpu s w := by
  unfold OnlyCpu at *
  rw [h] at g
  exact g

theorem onlyCpu_setDreg (s : State) (r : Fin 8) (v : Long) : OnlyCpu s (s.setDreg r v) := rfl

theorem onlyCpu_setAreg (s : State) (r : Fin 8) (v : Long) : OnlyCpu s (s.setAreg r v) := by
  unfold OnlyCpu State.setAreg; split <;> [rfl; (split <;> rfl)]

theorem onlyAreg_setAreg (s : State) (r : Fin 8) (v : Long) : OnlyAreg r s (s.setAreg r v) := by
  simp [OnlyAreg]

/-- The address registers depend on the CPU only. -/
theorem areg_of_cpu {s t : State} (h : t.cpu = s.cpu) (r : Fin 8) : t.areg r = s.areg r := by
  simp only [State.areg, h]

theorem dreg_of_cpu {s t : State} (h : t.cpu = s.cpu) (r : Fin 8) : t.dreg r = s.dreg r := by
  simp only [State.dreg, h]

@[simp] theorem memWrite_cpu (p : Role) (sz : Size) (a : Long) (v : BitVec sz.bits) (s : State) :
    (memWrite p sz a v s).cpu = s.cpu := (memWrite_busKeeps p sz a v s).cpu
@[simp] theorem memRead_cpu (p : Role) (sz : Size) (a : Long) (s : State) :
    (memRead p sz a s).2.cpu = s.cpu := (memRead_readKeeps p sz a s).cpu
@[simp] theorem memWrite_areg (p : Role) (sz : Size) (a : Long) (v : BitVec sz.bits) (s : State) (r : Fin 8) :
    (memWrite p sz a v s).areg r = s.areg r := areg_of_cpu (memWrite_cpu p sz a v s) r
@[simp] theorem memRead_areg (p : Role) (sz : Size) (a : Long) (s : State) (r : Fin 8) :
    (memRead p sz a s).2.areg r = s.areg r := areg_of_cpu (memRead_cpu p sz a s) r
@[simp] theorem memWrite_dreg (p : Role) (sz : Size) (a : Long) (v : BitVec sz.bits) (s : State) (r : Fin 8) :
    (memWrite p sz a v s).dreg r = s.dreg r := dreg_of_cpu (memWrite_cpu p sz a v s) r
@[simp] theorem memRead_dreg (p : Role) (sz : Size) (a : Long) (s : State) (r : Fin 8) :
    (memRead p sz a s).2.dreg r = s.dreg r := dreg_of_cpu (memRead_cpu p sz a s) r

theorem setAreg_eq_patch (s : State) (r : Fin 8) (v : Long) :
    s.setAreg r v = s.patch (s.setAreg r v).cpu s.fetched s.stepCycles := by
  unfold State.setAreg; split <;> [rfl; (split <;> rfl)]

/-- The CPU after a write of an address register depends on the CPU only. -/
theorem setAreg_cpu_congr {s t : State} (h : t.cpu = s.cpu) (r : Fin 8) (v : Long) :
    (t.setAreg r v).cpu = (s.setAreg r v).cpu := by
  unfold State.setAreg; rw [h]; split <;> [rfl; (split <;> rfl)]

/-- With the default devices a write and a change of an address register commute. -/
theorem memWrite_setAreg {s : State} (h : s.defaultDevices) (p : Role) (sz : Size) (a : Long) (v : BitVec sz.bits) (r : Fin 8)
    (x : Long) : memWrite p sz a v (s.setAreg r x) = (memWrite p sz a v s).setAreg r x := by
  have k := memWrite_busKeeps p sz a v s
  rw [setAreg_eq_patch s, memWrite_patch _ _ _ _ h, setAreg_eq_patch (memWrite p sz a v s), setAreg_cpu_congr k.cpu, k.fetched,
    k.stepCycles]

/-- With the default devices a read and a change of an address register commute. -/
theorem memRead_setAreg {s : State} (h : s.defaultDevices) (p : Role) (sz : Size) (a : Long) (r : Fin 8) (x : Long) :
    memRead p sz a (s.setAreg r x) = ((memRead p sz a s).1, (memRead p sz a s).2.setAreg r x) := by
  have k := memRead_readKeeps p sz a s
  rw [setAreg_eq_patch s, memRead_patch _ _ _ _ h, setAreg_eq_patch (memRead p sz a s).2, setAreg_cpu_congr k.cpu, k.fetched,
    k.stepCycles]

@[simp] theorem setAreg_setAreg_self (s : State) (r : Fin 8) (v w : Long) :
    (s.setAreg r v).setAreg r w = s.setAreg r w := by
  unfold State.setAreg
  split
  · simp
  · split <;> simp_all

theorem setAreg_comm (s : State) {r k : Fin 8} (v w : Long) (h : r ≠ k) :
    (s.setAreg r v).setAreg k w = (s.setAreg k w).setAreg r v := by
  have hv : r.val ≠ k.val := fun e => h (Fin.ext e)
  unfold State.setAreg
  split <;> split <;> (try split) <;> (try simp_all) <;> (try omega)
  exact Vector.set_comm _ _ hv

@[simp] theorem setAreg_areg_self (s : State) (r : Fin 8) : s.setAreg r (s.areg r) = s := by
  unfold State.setAreg State.areg
  split
  · simp
  · split <;> rfl

/-- With the default devices a read leaves the state (R127, R132). -/
theorem same_memRead {s : State} (h : s.defaultDevices) (p : Role) (sz : Size) (a : Long) :
    Same s (memRead p sz a s).2 := by rw [memRead_state p sz a s h]; exact .refl s

/-! ### Fetch -/

/-- What a fetch of the CPU does: `pc` moves past the word, the word is recorded (R108). -/
theorem fetch16_cpu (s : State) : (fetch16 .cpu s).2 =
    s.patch { s.cpu with pc := evenAddr (s.cpu.pc + 2) } (s.fetched ++ [(fetch16 .cpu s).1]) s.stepCycles := rfl

theorem same_fetch16 (s : State) : Same s (fetch16 .cpu s).2 := rfl

@[simp] theorem fetch16_cpu_cpu (s : State) :
    (fetch16 .cpu s).2.cpu = { s.cpu with pc := evenAddr (s.cpu.pc + 2) } := rfl

/-- What a fetch of a unit does. -/
theorem fetch16_risc (u : Coproc) (s : State) : (fetch16 (.risc u) s).2 =
    { s.setRpc u ((s.risc u).pc + 2) with fetched := s.fetched ++ [(fetch16 (.risc u) s).1] } := rfl

end Sys2Proof.Machine
end

