-- ==== Sys2Proof/Laws/Exceptions.lean ====
section
/-! SUPPORT. Accesses in main RAM as operations on memory, and what taking an exception does, in one equation. -/
namespace Sys2Proof.Machine

/-! ### Main RAM -/

theorem regionAt_ram {a : Nat} (h : a < 0x200000) : regionAt a = some (region .mainRam) := by
  simp [regionAt, regions, Region.contains, region, h]

theorem busRead_ram (sz : Size) {a : Nat} (h : a < 0x200000) (s : State) : busRead sz a s = (s.mem.readAt sz a, s) := by
  rw [busRead, regionAt_ram h]; rfl

theorem busWrite_ram (sz : Size) {a : Nat} (h : a < 0x200000) (v : BitVec sz.bits) (s : State) :
    busWrite sz a v s = s.setMem (s.mem.writeAt sz a v) := by
  rw [busWrite, regionAt_ram h]; rfl

theorem alignedAddr_w {a : Long} (h : a.toNat < 0x1000000) (e : a.toNat % 2 = 0) : alignedAddr .w a = a.toNat := by
  simp only [alignedAddr, Size.bytes]; omega

theorem alignedAddr_b {a : Long} (h : a.toNat < 0x1000000) : alignedAddr .b a = a.toNat := by
  simp only [alignedAddr, Size.bytes]; omega

theorem add_two_toNat {a : Long} (h : a.toNat < 0x1000000) : (a + 2).toNat = a.toNat + 2 := by
  have := BitVec.toNat_add a 2
  have e : (2 : Long).toNat = 2 := rfl
  omega

theorem append_read16 (m : Memory) (a : Nat) : m.read16 a ++ m.read16 (a + 2) = m.read32 a := by
  simp only [Memory.read16, Memory.read32]
  apply BitVec.eq_of_getLsbD_eq
  intro i hi
  simp only [BitVec.getLsbD_append]
  grind

theorem write16_write16 (m : Memory) (a : Nat) (v : Long) :
    (m.write16 a (v.extractLsb' 16 16)).write16 (a + 2) (v.extractLsb' 0 16) = m.write32 a v := by
  simp only [Memory.write16, Memory.write32]
  have h : ∀ i j, j ≤ 8 → (v.extractLsb' i 16).extractLsb' j 8 = v.extractLsb' (i + j) 8 := by
    intro i j hj
    apply BitVec.eq_of_getLsbD_eq
    intro k hk
    simp only [BitVec.getLsbD_extractLsb']
    have : j + k < 16 := by omega
    simp [hk, this, Nat.add_assoc]
  simp only [h _ 8 (by omega), h _ 0 (by omega)]

/-- A word of main RAM read by the CPU (R100, R106). -/
theorem memRead_w_ram {a : Long} (h : a.toNat < 0x200000) (e : a.toNat % 2 = 0) (s : State) :
    memRead .cpu .w a s = (s.mem.read16 a.toNat, s) := by
  simp only [memRead, alignedAddr_w (by omega : a.toNat < 0x1000000) e]
  exact busRead_ram .w h s

/-- A long of main RAM read by the CPU, as two words (R100, R106). -/
theorem memRead_l_ram {a : Long} (h : a.toNat + 2 < 0x200000) (e : a.toNat % 2 = 0) (s : State) :
    memRead .cpu .l a s = (s.mem.read32 a.toNat, s) := by
  have h1 : a.toNat < 0x1000000 := by omega
  have h2 : (a + 2).toNat = a.toNat + 2 := add_two_toNat h1
  simp only [memRead, alignedAddr_w h1 e, alignedAddr_w (by omega : (a + 2).toNat < 0x1000000) (by omega), h2]
  rw [busRead_ram .w (by omega), busRead_ram .w (by omega)]
  exact Prod.ext (append_read16 s.mem a.toNat) rfl

/-- A word stored by the CPU in main RAM (R100, R106). -/
theorem memWrite_w_ram {a : Long} (h : a.toNat < 0x200000) (e : a.toNat % 2 = 0) (v : Half) (s : State) :
    memWrite .cpu .w a v s = s.setMem (s.mem.write16 a.toNat v) := by
  simp only [memWrite, alignedAddr_w (by omega : a.toNat < 0x1000000) e]
  exact busWrite_ram .w h v s

/-- A long stored by the CPU in main RAM, as two words (R100, R106). -/
theorem memWrite_l_ram {a : Long} (h : a.toNat + 2 < 0x200000) (e : a.toNat % 2 = 0) (v : Long) (s : State) :
    memWrite .cpu .l a v s = s.setMem (s.mem.write32 a.toNat v) := by
  have h1 : a.toNat < 0x1000000 := by omega
  have h2 : (a + 2).toNat = a.toNat + 2 := add_two_toNat h1
  simp only [memWrite, alignedAddr_w h1 e, alignedAddr_w (by omega : (a + 2).toNat < 0x1000000) (by omega), h2]
  erw [busWrite_ram .w (by omega : a.toNat < 0x200000), busWrite_ram .w (by omega : a.toNat + 2 < 0x200000)]
  exact congrArg s.setMem (write16_write16 s.mem a.toNat v)

/-- A byte stored in main RAM. -/
theorem memWrite_b_ram (p : Role) {a : Long} (h : a.toNat < 0x200000) (v : Byte) (s : State) :
    memWrite p .b a v s = s.setMem (s.mem.write a.toNat v) := by
  simp only [memWrite, alignedAddr_b (by omega : a.toNat < 0x1000000)]
  exact busWrite_ram .b h v s

/-- A byte of main RAM read. -/
theorem memRead_b_ram (p : Role) {a : Long} (h : a.toNat < 0x200000) (s : State) :
    memRead p .b a s = (s.mem.read a.toNat, s) := by
  simp only [memRead, alignedAddr_b (by omega : a.toNat < 0x1000000)]
  exact busRead_ram .b h s

/-! ### Taking an exception -/

/-- A vector is a long of the vector table, in main RAM (R613). -/
theorem readLong_vector (k : ExcKind) (t : State) : readLong .cpu ((excVector k).setWidth 32 <<< 2) t =
    (t.mem.read32 (4 * (excVector k).toNat), t) := by
  generalize excVector k = v
  have hv := v.isLt
  have e : (v.setWidth 32 <<< 2 : Long).toNat = 4 * v.toNat := by
    simp only [BitVec.toNat_shiftLeft, BitVec.toNat_setWidth, Nat.shiftLeft_eq]; omega
  rw [readLong, memRead_l_ram (by omega) (by omega), e]

theorem areg7_supervisor {s : State} (h : s.cpu.sr.s = true) : s.areg 7 = s.cpu.ssp := by
  simp [State.areg, h]

theorem setAreg7_supervisor {s : State} (v : Long) (h : s.cpu.sr.s = true) :
    s.setAreg 7 v = { s with cpu := { s.cpu with ssp := v } } := by
  simp [State.setAreg, h]

/-- Taking an exception in one equation (R614): the frame's two writes, each in the state that the entry has reached (SR
changed, SSP moved), then the CPU's new registers. -/
theorem takeException_eq (k : ExcKind) (savedPc : Long) (s : State) :
    takeException k savedPc s =
      let a := memWrite .cpu .l (s.cpu.ssp - 4) savedPc
        (s.patch { s.cpu with sr := excSr k s.cpu.sr, ssp := s.cpu.ssp - 4 } s.fetched s.stepCycles)
      let b := memWrite .cpu .w (s.cpu.ssp - 6) s.cpu.sr.toHalf
        (a.patch { s.cpu with sr := excSr k s.cpu.sr, ssp := s.cpu.ssp - 6 } s.fetched s.stepCycles)
      b.patch
        { s.cpu with
          sr := excSr k s.cpu.sr, ssp := s.cpu.ssp - 6, pc := evenAddr (b.mem.read32 (4 * (excVector k).toNat)),
          run := .running }
        s.fetched (s.stepCycles + Config.costExc .cpu k) := by
  have hs : (excSr k s.cpu.sr).s = true := by cases k <;> rfl
  have p1 : push32 savedPc (s.setSr (excSr k s.cpu.sr)) = memWrite .cpu .l (s.cpu.ssp - 4) savedPc
      (s.patch { s.cpu with sr := excSr k s.cpu.sr, ssp := s.cpu.ssp - 4 } s.fetched s.stepCycles) := by
    simp only [push32]
    rw [areg7_supervisor (s := s.setSr (excSr k s.cpu.sr)) hs, setAreg7_supervisor _ (by exact hs)]
    exact congrArg (fun x => memWrite .cpu .l x savedPc _) (areg7_supervisor hs)
  have p2 : push16 s.cpu.sr.toHalf (push32 savedPc (s.setSr (excSr k s.cpu.sr))) =
      memWrite .cpu .w (s.cpu.ssp - 6) s.cpu.sr.toHalf ((memWrite .cpu .l (s.cpu.ssp - 4) savedPc
        (s.patch { s.cpu with sr := excSr k s.cpu.sr, ssp := s.cpu.ssp - 4 } s.fetched s.stepCycles)).patch
        { s.cpu with sr := excSr k s.cpu.sr, ssp := s.cpu.ssp - 6 } s.fetched s.stepCycles) := by
    rw [p1]
    have g := memWrite_busKeeps .cpu .l (s.cpu.ssp - 4) savedPc
      (s.patch { s.cpu with sr := excSr k s.cpu.sr, ssp := s.cpu.ssp - 4 } s.fetched s.stepCycles)
    generalize memWrite .cpu .l (s.cpu.ssp - 4) savedPc
      (s.patch { s.cpu with sr := excSr k s.cpu.sr, ssp := s.cpu.ssp - 4 } s.fetched s.stepCycles) = x at g
    have gc := g.cpu
    have gf := g.fetched
    have gn := g.stepCycles
    simp only [State.patch_cpu, State.patch_fetched, State.patch_stepCycles] at gc gf gn
    have hx : x.cpu.sr.s = true := by rw [gc]; exact hs
    have e : x.setAreg 7 (s.cpu.ssp - 6) =
        x.patch { s.cpu with sr := excSr k s.cpu.sr, ssp := s.cpu.ssp - 6 } s.fetched s.stepCycles := by
      rw [setAreg7_supervisor _ hx, gc, ← gf, ← gn]; rfl
    simp only [push16]
    rw [areg7_supervisor hx, gc]
    simp only [BitVec.sub_sub]
    rw [show (4 : Long) + 2 = 6 from rfl, e]
    exact congrArg (fun y => memWrite .cpu .w y s.cpu.sr.toHalf _) (areg7_supervisor hs)
  simp only [takeException, p2, readLong_vector]
  generalize hb : memWrite .cpu .w (s.cpu.ssp - 6) s.cpu.sr.toHalf _ = b
  have g := memWrite_busKeeps .cpu .w (s.cpu.ssp - 6) s.cpu.sr.toHalf ((memWrite .cpu .l (s.cpu.ssp - 4) savedPc
        (s.patch { s.cpu with sr := excSr k s.cpu.sr, ssp := s.cpu.ssp - 4 } s.fetched s.stepCycles)).patch
        { s.cpu with sr := excSr k s.cpu.sr, ssp := s.cpu.ssp - 6 } s.fetched s.stepCycles)
  rw [hb] at g
  have gc := g.cpu
  have gf := g.fetched
  have gn := g.stepCycles
  simp only [State.patch_cpu, State.patch_fetched, State.patch_stepCycles] at gc gf gn
  simp only [State.setPc, State.setRun, State.addStepCycles, State.patch, gc, ← gf, ← gn]

end Sys2Proof.Machine
end

