-- ==== Sys2Proof/Laws/Flags.lean ====
section
/-! SUPPORT. What the result and flag computations of Machine/Flags.lean answer, in exact integers. -/
namespace Sys2Proof.Machine

theorem nz_flags {n : Nat} (r : BitVec n) (f : Ccr) (hn : f.n = r.msb) (hz : f.z = (r == 0#n)) : NZ r f := by
  constructor
  · rw [hn, BitVec.msb_eq_decide]; simp
  · rw [hz, beq_iff_eq]
    constructor
    · rintro rfl; simp
    · intro h; exact BitVec.eq_of_toNat_eq (by simpa using h)

/-- The std flags are what R234 says. -/
theorem stdFlags_std {n : Nat} (r : BitVec n) (old : Ccr) : StdFlags r old (stdFlags r old) :=
  ⟨nz_flags r _ rfl rfl, rfl, rfl, rfl⟩

theorem outOfSigned_iff (n : Nat) (v : Int) : outOfSigned n v = true ↔ ¬ FitsSigned n v := by
  simp only [outOfSigned, FitsSigned, Bool.or_eq_true, decide_eq_true_eq]
  omega

/-- Result and flags of an addition (R260). -/
theorem added {n : Nat} (s d : BitVec n) (x : Bool) : Added s d x (addResult s d x) (addFlags s d x) where
  result := by simp [addResult]
  carry := by simp [addFlags]
  extend := rfl
  overflow := outOfSigned_iff n _
  negative := by simp [addFlags, BitVec.msb_eq_decide]

/-- Result and flags of a subtraction (R260). -/
theorem subtracted {n : Nat} (s d : BitVec n) (x : Bool) : Subtracted s d x (subResult s d x) (subFlags s d x) where
  result := by
    simp only [subResult, BitVec.toNat_ofInt]
    rw [Int.toNat_of_nonneg]
    · norm_cast
    · exact Int.emod_nonneg _ (by positivity)
  borrow := by simp only [subFlags, decide_eq_true_eq]; omega
  overflow := outOfSigned_iff n _
  negative := by simp [subFlags, BitVec.msb_eq_decide]

end Sys2Proof.Machine
end

