-- ==== Sys2Proof/Laws/Operands.lean ====
section
/-! SUPPORT. Operand evaluation, reads and writes of operands, and the shared forms of the CPU's instructions, said once
each: what they leave as it was, which bytes of memory they store to, and what they answer. -/
namespace Sys2Proof.Machine

/-! ### Evaluation of a mode -/

theorem same_fetchImm (sz : Size) (s : State) : Same s (fetchImm sz s).2 := by
  cases sz <;> rfl

/-- Evaluating a mode changes nothing but the CPU (R231). -/
theorem same_locEA (ea : EA) (sz : Size) (s : State) : Same s (locEA ea sz s).2 := by
  cases ea
  case postinc r => exact same_setAreg s r _
  case predec r => exact same_setAreg s r _
  case absL => exact (same_fetch16 s).trans (same_fetch16 _)
  case imm => exact same_fetchImm sz s
  all_goals rfl

/-- What evaluating a mode keeps of the CPU: data registers, SR, run state, cycle counter (R231). -/
theorem locEA_cpu (ea : EA) (sz : Size) (s : State) :
    (locEA ea sz s).2.cpu.d = s.cpu.d ∧ (locEA ea sz s).2.cpu.sr = s.cpu.sr ∧
      (locEA ea sz s).2.cpu.run = s.cpu.run ∧ (locEA ea sz s).2.cpu.cycles = s.cpu.cycles := by
  cases ea
  case imm => cases sz <;> exact ⟨rfl, rfl, rfl, rfl⟩
  case postinc r => simp [locEA]
  case predec r => simp [locEA]
  all_goals exact ⟨rfl, rfl, rfl, rfl⟩

/-! ### Reads -/

theorem readLoc_readKeeps (l : Loc) (sz : Size) (s : State) : ReadKeeps s (readLoc l sz s).2 := by
  cases l
  case mem a => exact memRead_readKeeps .cpu sz a s
  all_goals exact .refl s

@[simp] theorem readLoc_cpu (l : Loc) (sz : Size) (s : State) : (readLoc l sz s).2.cpu = s.cpu :=
  (readLoc_readKeeps l sz s).cpu

theorem readLoc_state {s : State} (h : s.defaultDevices) (l : Loc) (sz : Size) : (readLoc l sz s).2 = s := by
  cases l
  case mem a => exact memRead_state .cpu sz a s h
  all_goals rfl

/-- With the default devices reading an operand changes nothing but the CPU (R127, R132). -/
theorem same_readEA {s : State} (h : s.defaultDevices) (ea : EA) (sz : Size) : Same s (readEA ea sz s).2 := by
  unfold readEA
  rw [readLoc_state ((same_locEA ea sz s).defaultDevices h)]
  exact same_locEA ea sz s

/-- What reading an operand keeps of the CPU, whatever the devices. -/
theorem readEA_cpu (ea : EA) (sz : Size) (s : State) :
    (readEA ea sz s).2.cpu.d = s.cpu.d ∧ (readEA ea sz s).2.cpu.sr = s.cpu.sr ∧
      (readEA ea sz s).2.cpu.run = s.cpu.run ∧ (readEA ea sz s).2.cpu.cycles = s.cpu.cycles := by
  have := locEA_cpu ea sz s
  simpa [readEA] using this

@[simp] theorem readEA_d (ea : EA) (sz : Size) (s : State) : (readEA ea sz s).2.cpu.d = s.cpu.d := (readEA_cpu ea sz s).1
@[simp] theorem readEA_sr (ea : EA) (sz : Size) (s : State) : (readEA ea sz s).2.cpu.sr = s.cpu.sr :=
  (readEA_cpu ea sz s).2.1
@[simp] theorem readEA_dreg (ea : EA) (sz : Size) (s : State) (r : Fin 8) : (readEA ea sz s).2.dreg r = s.dreg r := by
  simp [State.dreg]
@[simp] theorem readEA_dregAt (ea : EA) (sz sz' : Size) (s : State) (r : Fin 8) :
    (readEA ea sz s).2.dregAt sz' r = s.dregAt sz' r := by
  simp [State.dregAt]

@[simp] theorem locEA_d (ea : EA) (sz : Size) (s : State) : (locEA ea sz s).2.cpu.d = s.cpu.d := (locEA_cpu ea sz s).1
@[simp] theorem locEA_sr (ea : EA) (sz : Size) (s : State) : (locEA ea sz s).2.cpu.sr = s.cpu.sr :=
  (locEA_cpu ea sz s).2.1

/-! ### Writes -/

theorem writeLoc_sr (l : Loc) (sz : Size) (v : BitVec sz.bits) (s : State) :
    (writeLoc l sz v s).cpu.sr = s.cpu.sr := by
  cases l
  case mem a => exact congrArg Cpu.sr (memWrite_busKeeps .cpu sz a v s).cpu
  all_goals simp [writeLoc]

/-- With the default devices a write of an operand leaves every byte of memory but its own (R232). -/
theorem writeLoc_outside {s : State} (h : s.defaultDevices) (hw : s.mem.wf = true) (l : Loc) (sz : Size)
    (v : BitVec sz.bits) : MemSameOutside (l.bytes sz) s (writeLoc l sz v s) := by
  cases l
  case mem a => exact (memWrite_outside .cpu sz a v h hw).1
  all_goals intro a _; simp [writeLoc]

/-- The frame of a write of an operand whose location was evaluated at a state. -/
theorem memKept_writeLoc (ea : EA) (sz : Size) (s : State) (v : BitVec sz.bits) (f : Ccr) :
    MemKept ((locEA ea sz s).1.bytes sz) s ((writeLoc (locEA ea sz s).1 sz v (locEA ea sz s).2).setCcr f) := by
  intro hw hd a ha
  have hs := same_locEA ea sz s
  have := writeLoc_outside (hs.defaultDevices hd) (by rw [hs.mem]; exact hw) (locEA ea sz s).1 sz v a ha
  simp only [State.setCcr_mem, this, hs.mem]

/-! ### Shared forms -/

/-- What reading an operand, changing it and writing it back does (R232, R235). -/
theorem modifyEA_rewrites (ea : EA) (sz : Size) (op : BitVec sz.bits → Ccr → BitVec sz.bits × Ccr) (s : State) :
    Rewrites ea sz s (modifyEA ea sz op s) (op (readEA ea sz s).1 s.ccr).1 ∧
      (modifyEA ea sz op s).ccr = (op (readEA ea sz s).1 s.ccr).2 := by
  have hc : (readLoc (locEA ea sz s).1 sz (locEA ea sz s).2).2.ccr = s.ccr := by simp
  refine ⟨⟨?_, ?_⟩, ?_⟩
  · simp only [modifyEA, OnlyCcr, readEA, hc]
    rfl
  · intro hw hd
    have hs := same_locEA ea sz s
    have hr := readLoc_state (hs.defaultDevices hd) (locEA ea sz s).1 sz
    simp only [modifyEA, hr]
    exact memKept_writeLoc ea sz s _ _ hw hd
  · simp only [modifyEA, hc, readEA]
    rfl

/-! ### Data registers at a size -/

theorem setWidth_append {m n : Nat} (x : BitVec m) (y : BitVec n) : (x ++ y).setWidth n = y := by
  apply BitVec.eq_of_getLsbD_eq
  intro i hi
  simp [BitVec.getLsbD_append, hi]

theorem toNat_append_div {m n : Nat} (x : BitVec m) (y : BitVec n) : (x ++ y).toNat / 2 ^ n = x.toNat := by
  have hy := y.isLt
  rw [BitVec.toNat_append, ← Nat.shiftLeft_add_eq_or_of_lt hy, Nat.shiftLeft_eq, Nat.mul_comm,
    Nat.mul_add_div (Nat.two_pow_pos n), Nat.div_eq_of_lt hy, Nat.add_zero]

theorem toNat_append_mod {m n : Nat} (x : BitVec m) (y : BitVec n) : (x ++ y).toNat % 2 ^ n = y.toNat := by
  have hy := y.isLt
  rw [BitVec.toNat_append, ← Nat.shiftLeft_add_eq_or_of_lt hy, Nat.shiftLeft_eq, Nat.mul_comm,
    Nat.mul_add_mod, Nat.mod_eq_of_lt hy]

/-- Two values laid side by side as one number. -/
theorem toNat_append_eq {m n : Nat} (x : BitVec m) (y : BitVec n) : (x ++ y).toNat = x.toNat * 2 ^ n + y.toNat := by
  rw [BitVec.toNat_append, ← Nat.shiftLeft_add_eq_or_of_lt y.isLt, Nat.shiftLeft_eq]

theorem setWidth_replaceLow (sz : Size) (old : Long) (v : BitVec sz.bits) :
    (replaceLow sz old v).setWidth sz.bits = v := by
  cases sz
  · exact setWidth_append (m := 24) (n := 8) _ v
  · exact setWidth_append (m := 16) (n := 16) _ v
  · exact BitVec.setWidth_eq (n := 32) v

theorem keepsHigh_replaceLow (sz : Size) (old : Long) (v : BitVec sz.bits) :
    KeepsHigh sz old (replaceLow sz old v) := by
  have ho := old.isLt
  cases sz
  · refine (toNat_append_div (m := 24) (n := 8) (old.extractLsb' 8 24) v).trans ?_
    rw [BitVec.extractLsb'_toNat, Nat.shiftRight_eq_div_pow]
    simp only [Size.bits]; omega
  · refine (toNat_append_div (m := 16) (n := 16) (old.extractLsb' 16 16) v).trans ?_
    rw [BitVec.extractLsb'_toNat, Nat.shiftRight_eq_div_pow]
    simp only [Size.bits]; omega
  · have hv : BitVec.toNat (w := 32) v < 2 ^ 32 := BitVec.isLt (w := 32) v
    show BitVec.toNat (w := 32) v / 2 ^ 32 = old.toNat / 2 ^ 32
    omega

@[simp] theorem State.dregAt_setDregAt_self (s : State) (sz : Size) (r : Fin 8) (v : BitVec sz.bits) :
    (s.setDregAt sz r v).dregAt sz r = v := by
  simp [State.dregAt, State.setDregAt, setWidth_replaceLow]

/-- A write of a data register at a size: the low bits, and none above them (R21). -/
theorem setDregAt_keepsHigh (s : State) (sz : Size) (r : Fin 8) (v : BitVec sz.bits) :
    KeepsHigh sz (s.dreg r) ((s.setDregAt sz r v).dreg r) := by
  simp [State.setDregAt, keepsHigh_replaceLow]

/-- What changing a data register does (R21, R235). -/
theorem modifyDreg_effect (r : Fin 8) (sz : Size) (op : BitVec sz.bits → Ccr → BitVec sz.bits × Ccr) (s : State) :
    OnlyDregCcr r s (modifyDreg r sz op s) ∧ (modifyDreg r sz op s).dregAt sz r = (op (s.dregAt sz r) s.ccr).1 ∧
      KeepsHigh sz (s.dreg r) ((modifyDreg r sz op s).dreg r) ∧
      (modifyDreg r sz op s).ccr = (op (s.dregAt sz r) s.ccr).2 := by
  refine ⟨?_, ?_, ?_, rfl⟩
  · simp only [OnlyDregCcr, modifyDreg, State.setCcr_dreg, State.setDregAt, State.dreg_setDreg_self]
    rfl
  · exact State.dregAt_setDregAt_self s sz r _
  · simp only [modifyDreg, State.setCcr_dreg]
    exact setDregAt_keepsHigh s sz r _

theorem memKept_of_mem {s t : State} (h : s.defaultDevices → t.mem = s.mem) : MemKept [] s t :=
  fun _ hd a _ => by rw [h hd]

theorem memKept_readEA {ea : EA} {sz : Size} {s t : State} (h : t.mem = (readEA ea sz s).2.mem) : MemKept [] s t :=
  memKept_of_mem fun hd => h.trans (same_readEA hd ea sz).mem

/-- A frame from a state that differs in the CPU only holds from the state itself. -/
theorem MemKept.of_same {l : List Nat} {s w t : State} (h : Same s w) (g : MemKept l w t) : MemKept l s t := by
  intro hw hd a ha
  rw [g (by rw [h.mem]; exact hw) (h.defaultDevices hd) a ha, h.mem]

/-- A frame from a state that the same reads lead to, with the default devices, holds from the state before them. -/
theorem MemKept.of_default {l : List Nat} {s w t : State} (h : s.defaultDevices → Same s w) (g : MemKept l w t) :
    MemKept l s t := fun hw hd => (MemKept.of_same (h hd) g) hw hd

theorem Rewrites.of_default {ea : EA} {sz : Size} {s w t : State} {res : BitVec sz.bits}
    (h : s.defaultDevices → Same s w) (g : Rewrites ea sz w t res) : MemKept ((locEA ea sz w).1.bytes sz) s t :=
  MemKept.of_default h g.2

/-- What the form `<ea>,Dn` does. -/
theorem eaToDreg_effect (r : Fin 8) (sz : Size) (ea : EA)
    (op : BitVec sz.bits → BitVec sz.bits → Ccr → BitVec sz.bits × Ccr) (s : State) :
    OnlyDregCcr r (readEA ea sz s).2 (eaToDreg r sz ea op s) ∧
      (eaToDreg r sz ea op s).dregAt sz r = (op (readEA ea sz s).1 (s.dregAt sz r) s.ccr).1 ∧
      KeepsHigh sz (s.dreg r) ((eaToDreg r sz ea op s).dreg r) ∧
      (eaToDreg r sz ea op s).ccr = (op (readEA ea sz s).1 (s.dregAt sz r) s.ccr).2 ∧
      MemKept [] s (eaToDreg r sz ea op s) := by
  have h := modifyDreg_effect r sz (op (readEA ea sz s).1) (readEA ea sz s).2
  simp only [readEA_dregAt, readEA_dreg, State.ccr_eq, readEA_sr] at h
  exact ⟨h.1, h.2.1, h.2.2.1, h.2.2.2, memKept_readEA rfl⟩

end Sys2Proof.Machine
end

