-- ==== Sys2Proof/Tests/Slice0.lean ====
section
/-! SUPPORT. Tests. Expected results come from the spec: the vectors of 95_test_vectors.md, named in each theorem (M, A,
L, K: CPU; RA, RM, RC, RG, RB, RD: the units; B, I, H, T: the whole machine), the examples of the instruction rules
(EX), or hand calculation from the rule (HAND). Witnesses for the hypotheses of the obligations stand at the end. -/
namespace Sys2Proof.Tests
open Sys2Proof.Machine

-- One theorem after another: `decide +kernel` waits for the kernel, and a thread for each would exhaust memory.
set_option Elab.async false

/-! ### Helpers -/

/-- A setting of a vector's start column. -/
abbrev Put := State → State

/-- Bytes of a word or long in memory. -/
def m8 (a : Nat) (v : Byte) : Put := fun s => s.setMem (s.mem.write a v)
def m16 (a : Nat) (v : Half) : Put := fun s => s.setMem (s.mem.write16 a v)
def m32 (a : Nat) (v : Long) : Put := fun s => s.setMem (s.mem.write32 a v)

/-- Words from an address on. -/
def code : Nat → List Half → Put
  | _, [], s => s
  | a, w :: ws, s => code (a + 2) ws (m16 a w s)

/-- CPU registers. -/
def d (r : Fin 8) (v : Long) : Put := fun s => s.setDreg r v
def a (r : Fin 8) (v : Long) : Put := fun s => s.setAreg r v
def usp (v : Long) : Put := fun s => s.setUsp v
def sr (v : Half) : Put := fun s => s.setSr (StatusReg.ofHalf v)
def pc (v : Long) : Put := fun s => s.setPc v

/-- X N Z V C. -/
def ccr (v : BitVec 5) : Put := fun s => s.setCcr (Ccr.ofBits v)

/-- Registers and flags Z, N, C of a unit. -/
def r (u : Coproc) (n : Fin 32) (v : Long) : Put := fun s => s.setRreg u n v
def znc (u : Coproc) (z n c : Bool) : Put := fun s => s.setZNC u z n c

/-- A line's flags. -/
def line (p : Role) (k : Nat) (enabled pending : Bool) : Put :=
  fun s => s.setLine p k { enabled := enabled, pending := pending }

/-- Settings in order. -/
def puts (l : List Put) (s : State) : State := l.foldl (fun s f => f s) s

/-- The state most CPU vectors start from: after reset, `SSP = 1000`, code at 1000. -/
def start : State := puts [a 7 0x1000, pc 0x1000] State.reset

/-- What a result says of its next state; false where there is none. -/
def holds (o : Result) (p : State → Bool) : Bool :=
  match o with
  | .next t => p t
  | .fault _ => false
  | .refused _ => false

/-- Decode the word at an address and execute it, with `pc` past it. -/
def runAt (p : Role) (at_ : Nat) (s : State) (ok : State → Bool) : Bool :=
  match decode p (s.mem.read16 at_) with
  | .ok i => holds (exec i (s.setPcOf p (BitVec.ofNat 32 (at_ + 2)))) ok
  | .error _ => false

/-- One CPU instruction at 1000. -/
def cpu (ws : List Half) (l : List Put) (ok : State → Bool) : Bool :=
  runAt .cpu 0x1000 (puts (code 0x1000 ws :: l) start) ok

/-- One instruction of a unit, 100 above the base of its local memory. -/
def unit (u : Coproc) (ws : List Half) (l : List Put) (ok : State → Bool) : Bool :=
  let b := Config.localBase u + 0x100
  runAt (.risc u) b (puts (code b ws :: l) State.reset) ok

/-- One instruction on both units, its settings given for each. -/
def both (ws : List Half) (l : Coproc → List Put) (ok : Coproc → State → Bool) : Bool :=
  unit .gpu ws (l .gpu) (ok .gpu) && unit .dsp ws (l .dsp) (ok .dsp)

/-- Register 2 of a unit and Z N C. -/
def r2 (u : Coproc) (v : Long) (flags : BitVec 3) (t : State) : Bool :=
  t.rreg u 2 == v && flagBit 3 2 (t.risc u).z ||| flagBit 3 1 (t.risc u).n ||| flagBit 3 0 (t.risc u).c == flags

/-- `R1` and `R2` given, `R2` and Z N C expected, on both units. -/
def alu (w : Half) (x y res : Long) (flags : BitVec 3) : Bool :=
  both [w] (fun u => [r u 1 x, r u 2 y]) (fun u => r2 u res flags)

/-- The words decode to the instructions beside them, which are well formed and encode back. -/
def decodes (p : Role) (l : List (Half × Instr)) : Bool :=
  l.all fun c => (match decode p c.1 with
    | .ok i => i == c.2
    | .error _ => false) && c.2.wellFormed && encode c.2 == c.1

/-! ### Ill-formed terms are refused (R176, R180) -/

theorem test_illFormed_classes :
    (Instr.ori .w (.an 0)).wellFormed = false ∧ (Instr.addi .w .imm).wellFormed = false ∧
    (Instr.btstImm .imm).wellFormed = false ∧ (Instr.btstImm (.an 1)).wellFormed = false ∧
    (Instr.btstReg 0 (.an 1)).wellFormed = false ∧ (Instr.bsetImm .pcDisp).wellFormed = false ∧
    (Instr.moveaL 0 (.dn 1)).wellFormed = true ∧ (Instr.addq 0 .w .pcIndex).wellFormed = false ∧
    (Instr.orDnEa 0 .l (.dn 1)).wellFormed = false ∧ (Instr.asrEa (.dn 0)).wellFormed = false ∧
    (Instr.jsr (.postinc 0)).wellFormed = false ∧ (Instr.lea 0 (.dn 0)).wellFormed = false ∧
    (Instr.movemRegsEa .w (.postinc 0)).wellFormed = false ∧ (Instr.movemRegsEa .l .pcDisp).wellFormed = false ∧
    (Instr.movemEaRegs .w (.predec 0)).wellFormed = false ∧ (Instr.chk 0 (.an 0)).wellFormed = false := by decide

theorem test_illFormed_byteAddress :
    (Instr.moveB (.dn 0) (.an 0)).wellFormed = false ∧ (Instr.addEaDn 0 .b (.an 0)).wellFormed = false ∧
    (Instr.addq 1 .b (.an 0)).wellFormed = false ∧ (Instr.cmp 0 .b (.an 0)).wellFormed = false ∧
    (Instr.cmp 0 .w (.an 0)).wellFormed = true := by decide

theorem test_illFormed_moveAndBcc :
    (Instr.moveW (.an 0) (.dn 0)).wellFormed = false ∧ (Instr.moveL .imm (.dn 0)).wellFormed = false ∧
    (Instr.bcc .t 2).wellFormed = false ∧ (Instr.bcc .f 2).wellFormed = false ∧
    (Instr.bcc .eq 2).wellFormed = true := by decide

/-! ### Decoding: a word for every constructor, from the opcode map of R180 and R203 -/

theorem test_decode_line0 :
    decodes .cpu [(0x003C, .oriToCcr), (0x007C, .oriToSr), (0x023C, .andiToCcr), (0x027C, .andiToSr),
      (0x0A3C, .eoriToCcr), (0x0A7C, .eoriToSr), (0x0045, .ori .w (.dn 5)), (0x0200, .andi .b (.dn 0)),
      (0x0483, .subi .l (.dn 3)), (0x0650, .addi .w (.ind 0)), (0x0A00, .eori .b (.dn 0)),
      (0x0C00, .cmpi .b (.dn 0)), (0x0800, .btstImm (.dn 0)), (0x0840, .bchgImm (.dn 0)), (0x0880, .bclrImm (.dn 0)),
      (0x08D1, .bsetImm (.ind 1)), (0x01C8, .movep 0 .regToMem .l 0), (0x0509, .movep 2 .memToReg .w 1),
      (0x0705, .btstReg 3 (.dn 5)), (0x0141, .bchgReg 0 (.dn 1)), (0x0392, .bclrReg 1 (.ind 2)),
      (0x03D0, .bsetReg 1 (.ind 0))] = true := by decide +kernel

theorem test_decode_moves :
    decodes .cpu [(0x2441, .moveaL 2 (.dn 1)), (0x307C, .moveaW 0 .imm), (0x1F00, .moveB (.predec 7) (.dn 0)),
      (0x21C0, .moveL .absW (.dn 0)), (0x30D8, .moveW (.postinc 0) (.postinc 0)), (0x48E7, .movemRegsEa .l (.predec 7)),
      (0x4CDF, .movemEaRegs .l (.postinc 7)), (0x70FF, .moveq 0 0xFF), (0x43E8, .lea 1 (.disp 0)),
      (0x4857, .pea (.ind 7)), (0x4E56, .link 6), (0x4E5E, .unlk 6), (0x4840, .swap 0), (0xC342, .exgDD 1 2),
      (0xC34A, .exgAA 1 2), (0xC188, .exgDA 0 0), (0x4298, .clr .l (.postinc 0)), (0x4880, .extW 0),
      (0x48C0, .extL 0)] = true := by decide +kernel

theorem test_decode_line4 :
    decodes .cpu [(0x4AFC, .illegal), (0x4E70, .reset), (0x4E71, .nop), (0x4E72, .stop), (0x4E73, .rte),
      (0x4E75, .rts), (0x4E76, .trapv), (0x4E77, .rtr), (0x4E41, .trap 1), (0x4E60, .moveAnUsp 0),
      (0x4E6B, .moveUspAn 3), (0x4EB8, .jsr .absW), (0x4ED0, .jmp (.ind 0)), (0x4800, .nbcd (.dn 0)),
      (0x4AD0, .tas (.ind 0)), (0x4A40, .tst .w (.dn 0)), (0x40C0, .moveSrEa (.dn 0)), (0x44C0, .moveEaCcr (.dn 0)),
      (0x46FC, .moveEaSr .imm), (0x4080, .negx .l (.dn 0)), (0x4400, .neg .b (.dn 0)), (0x4640, .notEa .w (.dn 0)),
      (0x4181, .chk 0 (.dn 1))] = true := by decide +kernel

theorem test_decode_lines5to8 :
    decodes .cpu [(0x51C8, .dbcc .f 0), (0x57C0, .scc .eq (.dn 0)), (0x5248, .addq 1 .w (.an 0)),
      (0x5340, .subq 1 .w (.dn 0)), (0x60FE, .bra 0xFE), (0x6104, .bsr 4), (0x6604, .bcc .ne 4),
      (0x80C1, .divu 0 (.dn 1)), (0x81C1, .divs 0 (.dn 1)), (0x8101, .sbcd 0 .regs 1), (0x8081, .orEaDn 0 .l (.dn 1)),
      (0x8151, .orDnEa 0 .w (.ind 1))] = true := by decide +kernel

theorem test_decode_lines9toF :
    decodes .cpu [(0x90C0, .subaW 0 (.dn 0)), (0x93C0, .subaL 1 (.dn 0)), (0x9101, .subx 0 .b .regs 1),
      (0x9041, .subEaDn 0 .w (.dn 1)), (0x95A3, .subDnEa 2 .l (.predec 3)), (0xA123, .lineA 0x123),
      (0xB0C0, .cmpaW 0 (.dn 0)), (0xB5C9, .cmpaL 2 (.an 1)), (0xB108, .cmpm 0 .b 0), (0xB041, .cmp 0 .w (.dn 1)),
      (0xB340, .eor 1 .w (.dn 0)), (0xC0C1, .mulu 0 (.dn 1)), (0xC1C1, .muls 0 (.dn 1)), (0xC101, .abcd 0 .regs 1),
      (0xC041, .andEaDn 0 .w (.dn 1)), (0xC318, .andDnEa 1 .b (.postinc 0)), (0xD0C0, .addaW 0 (.dn 0)),
      (0xD5C3, .addaL 2 (.dn 3)), (0xD181, .addx 0 .l .regs 1), (0xD001, .addEaDn 0 .b (.dn 1)),
      (0xD350, .addDnEa 1 .w (.ind 0)), (0xFFFF, .lineF 0xFFF)] = true := by decide +kernel

theorem test_decode_shifts :
    decodes .cpu [(0xE0D0, .asrEa (.ind 0)), (0xE1D0, .aslEa (.ind 0)), (0xE2D0, .lsrEa (.ind 0)),
      (0xE3D0, .lslEa (.ind 0)), (0xE4D0, .roxrEa (.ind 0)), (0xE5D0, .roxlEa (.ind 0)), (0xE6D0, .rorEa (.ind 0)),
      (0xE7D0, .rolEa (.ind 0)), (0xE220, .asrDn (.reg 1) .b 0), (0xE540, .aslDn (.imm 2) .w 0),
      (0xE2A8, .lsrDn (.reg 1) .l 0), (0xE368, .lslDn (.reg 1) .w 0), (0xE230, .roxrDn (.reg 1) .b 0),
      (0xE310, .roxlDn (.imm 1) .b 0), (0xE238, .rorDn (.reg 1) .b 0), (0xE958, .rolDn (.imm 4) .w 0)] = true := by
  decide +kernel

/-- K24, K25 and the constraints of R180: words that select no row. -/
theorem test_decode_noRow :
    ([0x4E7B, 0x1008, 0x4E7A, 0x0008, 0x4A48, 0x41C0, 0x4EC0, 0xC140 + 0x10, 0x4AFA] : List Half).all
      (fun w => match decode .cpu w with
        | .ok i => encode i == w && i.wellFormed
        | .error _ => true) = true ∧
    decode .cpu 0x4E7B = .error .noRow ∧ decode .cpu 0x1008 = .error .noRow := by decide +kernel

theorem test_decode_risc_arithmetic :
    decodes (.risc .gpu) [(0x0022, .rAdd .gpu 1 2), (0x0422, .rAddc .gpu 1 2), (0x0803, .rAddq .gpu 0 3),
      (0x0C85, .rAddqt .gpu 4 5), (0x1022, .rSub .gpu 1 2), (0x1422, .rSubc .gpu 1 2), (0x1821, .rSubq .gpu 1 1),
      (0x1C20, .rSubqt .gpu 1 0), (0x2002, .rNeg .gpu 2), (0x2422, .rAnd .gpu 1 2), (0x2822, .rOr .gpu 1 2),
      (0x2C42, .rXor .gpu 2 2), (0x3002, .rNot .gpu 2), (0x37E2, .rBtst .gpu 31 2), (0x3862, .rBset .gpu 3 2),
      (0x3C62, .rBclr .gpu 3 2), (0x4022, .rMult .gpu 1 2), (0x4422, .rImult .gpu 1 2), (0x4822, .rImultn .gpu 1 2),
      (0x4C05, .rResmac .gpu 5), (0x5064, .rImacn .gpu 3 4), (0x5422, .rDiv .gpu 1 2), (0x5802, .rAbs .gpu 2),
      (0x5C22, .rSh .gpu 1 2), (0x6382, .rShlq .gpu 28 2), (0x6482, .rShrq .gpu 4 2), (0x6822, .rSha .gpu 1 2),
      (0x6C82, .rSharq .gpu 4 2), (0x7022, .rRor .gpu 1 2), (0x7402, .rRorq .gpu 0 2), (0x7822, .rCmp .gpu 1 2),
      (0x7FE2, .rCmpq .gpu 31 2), (0x8002, .gSat8 2), (0x8402, .gSat16 2)] = true := by decide +kernel

theorem test_decode_risc_rest :
    decodes (.risc .gpu) [(0x8822, .rMove .gpu 1 2), (0x8FE0, .rMoveq .gpu 31 0), (0x9022, .rMoveta .gpu 1 2),
      (0x9443, .rMovefa .gpu 2 3), (0x9803, .rMovei .gpu 3), (0x9C22, .rLoadb .gpu 1 2), (0xA022, .rLoadw .gpu 1 2),
      (0xA422, .rLoad .gpu 1 2), (0xA822, .gLoadp 1 2), (0xAC03, .rLoadR14q .gpu 0 3), (0xB020, .rLoadR15q .gpu 1 0),
      (0xB422, .rStoreb .gpu 1 2), (0xB822, .rStorew .gpu 1 2), (0xBC22, .rStore .gpu 1 2), (0xC022, .gStorep 1 2),
      (0xC443, .rStoreR14q .gpu 2 3), (0xC803, .rStoreR15q .gpu 0 3), (0xCC02, .rMovePc .gpu 2),
      (0xD0A0, .rJump .gpu 5 0), (0xD7C1, .rJr .gpu 30 1), (0xD882, .rMmult .gpu 4 2), (0xDC22, .rMtoi .gpu 1 2),
      (0xE022, .rNormi .gpu 1 2), (0xE400, .rNop .gpu), (0xE822, .rLoadR14m .gpu 1 2), (0xEC22, .rLoadR15m .gpu 1 2),
      (0xF022, .rStoreR14m .gpu 1 2), (0xF422, .rStoreR15m .gpu 1 2), (0xF802, .gSat24 2), (0xFC02, .gPack 2),
      (0xFC22, .gUnpack 2)] = true := by decide +kernel

theorem test_decode_dsp :
    decodes (.risc .dsp) [(0x8022, .dSubqmod 1 2), (0x8402, .dSat16s 2), (0xA802, .dSat32s 2), (0xC002, .dMirror 2),
      (0xF800, .dReserved62), (0xFC82, .dAddqmod 4 2), (0x9803, .rMovei .dsp 3), (0x0022, .rAdd .dsp 1 2)] = true := by
  decide +kernel

/-- Fields a row ignores (R205): RG7, and a JUMP whose condition never holds (RC3). -/
theorem test_decode_ignored_fields :
    decode (.risc .gpu) 0xFFE2 = .ok (.gUnpack 2) ∧ decode (.risc .gpu) 0xE7FF = .ok (.rNop .gpu) ∧
    decode (.risc .gpu) 0xD0A3 = .ok (.rJump .gpu 5 3) := by decide +kernel

/-- The host's numbering: the first word in the low bits, its high byte first in memory. -/
theorem test_decodeTableWord :
    decodeTableWord 16 0x4E71 = some .nop ∧ decodeTableWord 32 0x0001D001 = some (.addEaDn 0 .b (.dn 1)) ∧
    decodeTableWord 16 0x4E7B = none := by decide +kernel

/-! ### CPU: data movement -/

theorem test_M1_moveB_predec_sp : cpu [0x1F00] [d 0 0xAB] (fun t =>
    t.mem.read 0xFFE == 0xAB && t.mem.read 0xFFF == 0 && t.areg 7 == 0xFFE && t.ccr.toBits == 0b01000) = true := by
  decide +kernel
theorem test_M2_moveL_odd : cpu [0x21C0, 0x0101] [d 0 0x11223344] (fun t =>
    t.mem.read32 0x100 == 0x11223344 && t.mem.read 0x104 == 0 && t.ccr.toBits == 0) = true := by decide +kernel
theorem test_M3_moveW_postinc_twice : cpu [0x30D8] [a 0 0x2000, m16 0x2000 0x8001] (fun t =>
    t.mem.read16 0x2002 == 0x8001 && t.areg 0 == 0x2004 && t.ccr.toBits == 0b01000) = true := by decide +kernel
theorem test_M4_moveL_source_first : cpu [0x2108] [a 0 0x2004] (fun t =>
    t.mem.read32 0x2000 == 0x2004 && t.areg 0 == 0x2000 && t.ccr.toBits == 0) = true := by decide +kernel
theorem test_M5_moveW_keeps_high : cpu [0x323C, 0] [d 1 0xFFFFFFFF] (fun t =>
    t.dreg 1 == 0xFFFF0000 && t.ccr.toBits == 0b00100) = true := by decide +kernel
theorem test_M6_moveaW_sign : cpu [0x307C, 0x8000] [sr 0x271F] (fun t =>
    t.areg 0 == 0xFFFF8000 && t.cpu.sr.toHalf == 0x271F) = true := by decide +kernel
theorem test_EX_moveaL :
    cpu [0x207C, 0x0000, 0x1000] [] (fun t => t.areg 0 == 0x1000 && t.cpu.pc == 0x1006) = true := by
  decide +kernel
theorem test_M7_moveq : cpu [0x7E80] [] (fun t => t.dreg 7 == 0xFFFFFF80 && t.ccr.toBits == 0b01000) = true := by
  decide +kernel
theorem test_M8_movem_predec : cpu [0x48E7, 0x8002] [d 0 0x11111111, a 6 0x66666666] (fun t =>
    t.mem.read32 0xFFC == 0x66666666 && t.mem.read32 0xFF8 == 0x11111111 && t.areg 7 == 0xFF8) = true := by
  decide +kernel
theorem test_M11_movem_empty : cpu [0x48E7, 0] [d 0 0x11111111] (fun t =>
    t.mem.read32 0xFFC == 0 && t.areg 7 == 0x1000) = true := by decide +kernel
theorem test_M9_movem_postinc :
    cpu [0x4CDF, 0x4001] [a 7 0xFF8, m32 0xFFC 0x66666666, m32 0xFF8 0x11111111] (fun t =>
      t.dreg 0 == 0x11111111 && t.areg 6 == 0x66666666 && t.areg 7 == 0x1000) = true := by decide +kernel
theorem test_M10_movemW_sign :
    cpu [0x4C90, 0x0003] [a 0 0x2000, m16 0x2000 0x8000, m16 0x2002 1, d 0 0x55555555, d 1 0x55555555] (fun t =>
      t.dreg 0 == 0xFFFF8000 && t.dreg 1 == 1 && t.areg 0 == 0x2000) = true := by decide +kernel
theorem test_M12_movep : cpu [0x01C8, 0] [d 0 0x11223344, a 0 0x2000] (fun t =>
    t.mem.read32 0x2000 == 0x11002200 && t.mem.read32 0x2004 == 0x33004400) = true := by decide +kernel
theorem test_HAND_movep_load : cpu [0x0108, 1] [a 0 0x2000, m32 0x2000 0xA1B2C3D4, d 0 0x99990000] (fun t =>
    t.dreg 0 == 0x9999B2D4) = true := by decide +kernel
theorem test_M13_lea_wraps : cpu [0x43E8, 8] [a 0 0xFFFFFFFC] (fun t => t.areg 1 == 4) = true := by decide +kernel
theorem test_M14_lea_pc : cpu [0x41FA, 0xFFFE] [] (fun t => t.areg 0 == 0x1000) = true := by decide +kernel
theorem test_HAND_index_long : cpu [0x2030, 0x1804] [a 0 0x2000, d 1 0x100, m32 0x2104 0xCAFE] (fun t =>
    t.dreg 0 == 0xCAFE) = true := by decide +kernel
theorem test_HAND_index_word : cpu [0x2030, 0x10FC] [a 0 0x2000, d 1 0x1FFF0, m32 0x1FEC 0xCAFE] (fun t =>
    t.dreg 0 == 0xCAFE) = true := by decide +kernel
theorem test_M15_pea_sp : cpu [0x4857] [] (fun t => t.mem.read32 0xFFC == 0x1000 && t.areg 7 == 0xFFC) = true := by
  decide +kernel
theorem test_M16_exg_da : cpu [0xC188] [d 0 1, a 0 2] (fun t => t.dreg 0 == 2 && t.areg 0 == 1) = true := by
  decide +kernel
theorem test_HAND_exg_dd : cpu [0xC342] [d 1 5, d 2 6] (fun t => t.dreg 1 == 6 && t.dreg 2 == 5) = true := by
  decide +kernel
theorem test_HAND_exg_aa : cpu [0xC34F] [a 1 5] (fun t => t.areg 1 == 0x1000 && t.areg 7 == 5) = true := by
  decide +kernel
theorem test_M17_swap_zero : cpu [0x4840] [d 0 0] (fun t => t.dreg 0 == 0 && t.ccr.toBits == 0b00100) = true := by
  decide +kernel
theorem test_M18_link : cpu [0x4E56, 0xFFF8] [a 6 0x55] (fun t =>
    t.mem.read32 0xFFC == 0x55 && t.areg 6 == 0xFFC && t.areg 7 == 0xFF4) = true := by decide +kernel
theorem test_M18_unlk : cpu [0x4E5E] [a 6 0xFFC, a 7 0xFF4, m32 0xFFC 0x55] (fun t =>
    t.areg 6 == 0x55 && t.areg 7 == 0x1000) = true := by decide +kernel
theorem test_M19_clrL : cpu [0x4298] [a 0 0x2000, m32 0x2000 0x12345678] (fun t =>
    t.mem.read32 0x2000 == 0 && t.areg 0 == 0x2004 && t.ccr.toBits == 0b00100) = true := by decide +kernel

/-! ### CPU: arithmetic -/

theorem test_A1_addB : cpu [0xD001] [d 0 0x1234567F, d 1 1] (fun t =>
    t.dreg 0 == 0x12345680 && t.ccr.toBits == 0b01010) = true := by decide +kernel
theorem test_A2_addL : cpu [0xD081] [d 0 0x80000000, d 1 0x80000000] (fun t =>
    t.dreg 0 == 0 && t.ccr.toBits == 0b10111) = true := by decide +kernel
theorem test_HAND_addDnEa : cpu [0xD350] [d 1 2, a 0 0x2000, m16 0x2000 0xFFFF] (fun t =>
    t.mem.read16 0x2000 == 1 && t.ccr.toBits == 0b10001) = true := by decide +kernel
theorem test_A4_addaW : cpu [0xD0C0] [d 0 0xFFFE, a 0 0x1000, sr 0x271F] (fun t =>
    t.areg 0 == 0xFFE && t.cpu.sr.toHalf == 0x271F) = true := by decide +kernel
theorem test_HAND_addaL : cpu [0xD1C0] [d 0 0xFFFE, a 0 0x1000] (fun t => t.areg 0 == 0x10FFE) = true := by
  decide +kernel
theorem test_EX_addi : cpu [0x0640, 1] [d 0 0xFFFF] (fun t => t.dreg 0 == 0 && t.ccr.toBits == 0b10101) = true := by
  decide +kernel
theorem test_A5_addq_address : cpu [0x5248] [a 0 0xFFFF, ccr 0b11111] (fun t =>
    t.areg 0 == 0x10000 && t.ccr.toBits == 0b11111) = true := by decide +kernel
theorem test_A6_addq_eight : cpu [0x5040] [d 0 0xFFF8] (fun t => t.dreg 0 == 0 && t.ccr.toBits == 0b10101) = true := by
  decide +kernel
theorem test_A7_addx_sticky : cpu [0xD181] [d 0 0xFFFFFFFF, ccr 0b10100] (fun t =>
    t.dreg 0 == 0 && t.ccr.toBits == 0b10101) = true := by decide +kernel
theorem test_HAND_addx_memory :
    cpu [0xD108] [a 0 0x2002, m16 0x2000 0x0105, ccr 0b10000] (fun t =>
      t.mem.read16 0x2000 == 0x0705 && t.areg 0 == 0x2000 && t.ccr.toBits == 0) = true := by decide +kernel
theorem test_A9_subB :
    cpu [0x9001] [d 0 0x80, d 1 1] (fun t => t.dreg 0 == 0x7F && t.ccr.toBits == 0b00010) = true := by
  decide +kernel
theorem test_A10_subL : cpu [0x9081] [d 1 1] (fun t => t.dreg 0 == 0xFFFFFFFF && t.ccr.toBits == 0b11001) = true := by
  decide +kernel
theorem test_HAND_subDnEa : cpu [0x9350] [d 1 2, a 0 0x2000, m16 0x2000 1] (fun t =>
    t.mem.read16 0x2000 == 0xFFFF && t.ccr.toBits == 0b11001) = true := by decide +kernel
theorem test_EX_subaL : cpu [0x91C9] [a 0 1, a 1 2, sr 0x271F] (fun t =>
    t.areg 0 == 0xFFFFFFFF && t.cpu.sr.toHalf == 0x271F) = true := by decide +kernel
theorem test_HAND_subaW : cpu [0x90C1] [a 0 0, d 1 0x8000] (fun t => t.areg 0 == 0x8000) = true := by decide +kernel
theorem test_EX_subi : cpu [0x0400, 1] [d 0 0x80] (fun t => t.dreg 0 == 0x7F && t.ccr.toBits == 0b00010) = true := by
  decide +kernel
theorem test_A11_subq : cpu [0x5340] [d 0 0x10000] (fun t =>
    t.dreg 0 == 0x1FFFF && t.ccr.toBits == 0b11001) = true := by decide +kernel
theorem test_A12_subx : cpu [0x9101] [ccr 0b10100] (fun t => t.dreg 0 == 0xFF && t.ccr.toBits == 0b11001) = true := by
  decide +kernel
theorem test_A13_cmp : cpu [0xB041] [d 0 0x7FFF, d 1 0x8000] (fun t =>
    t.dreg 0 == 0x7FFF && t.ccr.toBits == 0b01011) = true := by decide +kernel
theorem test_A14_cmpaW : cpu [0xB0C0] [d 0 0xFFFF, a 0 0xFFFFFFFF] (fun t => t.ccr.toBits == 0b00100) = true := by
  decide +kernel
theorem test_EX_cmpaL : cpu [0xB1C9] [a 0 1, a 1 2] (fun t => t.ccr.toBits == 0b01001) = true := by decide +kernel
theorem test_A15_cmpi : cpu [0x0C00, 5] [d 0 4] (fun t => t.dreg 0 == 4 && t.ccr.toBits == 0b01001) = true := by
  decide +kernel
theorem test_A16_cmpm : cpu [0xB108] [a 0 0x2000, m16 0x2000 0x0505] (fun t =>
    t.areg 0 == 0x2002 && t.ccr.toBits == 0b00100) = true := by decide +kernel
theorem test_A17_neg : cpu [0x4400] [d 0 0x80] (fun t => t.dreg 0 == 0x80 && t.ccr.toBits == 0b11011) = true := by
  decide +kernel
theorem test_A18_negx : cpu [0x4080] [ccr 0b00100] (fun t => t.dreg 0 == 0 && t.ccr.toBits == 0b00100) = true := by
  decide +kernel
theorem test_A19_extL : cpu [0x48C0] [d 0 0x12348000] (fun t =>
    t.dreg 0 == 0xFFFF8000 && t.ccr.toBits == 0b01000) = true := by decide +kernel
theorem test_HAND_extW : cpu [0x4880] [d 0 0x12345680] (fun t =>
    t.dreg 0 == 0x1234FF80 && t.ccr.toBits == 0b01000) = true := by decide +kernel
theorem test_A20_mulu : cpu [0xC0C1] [d 0 0x1234FFFF, d 1 0xFFFF] (fun t =>
    t.dreg 0 == 0xFFFE0001 && t.ccr.toBits == 0b01000) = true := by decide +kernel
theorem test_A21_muls : cpu [0xC1C1] [d 0 0x8000, d 1 0x8000] (fun t =>
    t.dreg 0 == 0x40000000 && t.ccr.toBits == 0) = true := by decide +kernel
theorem test_A22_divu : cpu [0x80C1] [d 0 0x10005, d 1 2] (fun t =>
    t.dreg 0 == 0x18002 && t.ccr.toBits == 0b01000) = true := by decide +kernel
theorem test_A23_divu_overflow : cpu [0x80C1] [d 0 0x10000, d 1 1] (fun t =>
    t.dreg 0 == 0x10000 && t.ccr.v && !t.ccr.c) = true := by decide +kernel
theorem test_A24_divu_zero : cpu [0x80C1] [d 0 7, sr 0x2704, m32 0x14 0x480] (fun t =>
    t.dreg 0 == 7 && t.mem.read16 0xFFA == 0x2704 && t.mem.read32 0xFFC == 0x1002 && t.areg 7 == 0xFFA &&
    t.cpu.pc == 0x480 && t.cpu.sr.toHalf == 0x2704) = true := by decide +kernel
theorem test_A25_divs : cpu [0x81C1] [d 0 0xFFFFFFF9, d 1 2] (fun t =>
    t.dreg 0 == 0xFFFFFFFD && t.ccr.toBits == 0b01000) = true := by decide +kernel
theorem test_A26_divs_overflow : cpu [0x81C1] [d 0 0x80000000, d 1 0xFFFF] (fun t =>
    t.dreg 0 == 0x80000000 && t.ccr.v && !t.ccr.c) = true := by decide +kernel
theorem test_A28_tst : cpu [0x4A40] [d 0 0x18000] (fun t => t.ccr.toBits == 0b01000) = true := by decide +kernel
theorem test_A30_abcd : cpu [0xC101] [d 0 0x99, d 1 0x99, ccr 0b10100] (fun t =>
    t.dreg 0 == 0x99 && t.ccr.x && t.ccr.n && !t.ccr.z && t.ccr.c) = true := by decide +kernel
theorem test_A31_abcd_sticky : cpu [0xC101] [d 0 0x99, d 1 1, ccr 0b00100] (fun t =>
    t.dreg 0 == 0 && t.ccr.x && t.ccr.z && t.ccr.c) = true := by decide +kernel
theorem test_A33_sbcd : cpu [0x8101] [d 1 1, ccr 0b10100] (fun t =>
    t.dreg 0 == 0x98 && t.ccr.x && t.ccr.n && !t.ccr.z && t.ccr.c) = true := by decide +kernel
theorem test_A34_nbcd : cpu [0x4800] [ccr 0b10000] (fun t =>
    t.dreg 0 == 0x99 && t.ccr.x && t.ccr.n && !t.ccr.z && t.ccr.c) = true := by decide +kernel
theorem test_A35_nbcd_sticky : cpu [0x4800] [] (fun t => t.dreg 0 == 0 && !t.ccr.x && !t.ccr.z && !t.ccr.c) = true := by
  decide +kernel

/-! ### CPU: logic, shifts, bits -/

theorem test_L1_andW : cpu [0xC041] [d 0 0xFFFFF0F0, d 1 0x8F00] (fun t =>
    t.dreg 0 == 0xFFFF8000 && t.ccr.toBits == 0b01000) = true := by decide +kernel
theorem test_HAND_andDnEa : cpu [0xC318] [d 1 0x0F, a 0 0x2000, m16 0x2000 0xF3F3] (fun t =>
    t.mem.read16 0x2000 == 0x03F3 && t.areg 0 == 0x2001 && t.ccr.toBits == 0) = true := by decide +kernel
theorem test_L2_andiB : cpu [0x0200, 0x000F] [d 0 0x123456F0] (fun t =>
    t.dreg 0 == 0x12345600 && t.ccr.toBits == 0b00100) = true := by decide +kernel
theorem test_L3_orL : cpu [0x8081] [d 0 0x80000000, d 1 1, ccr 0b10000] (fun t =>
    t.dreg 0 == 0x80000001 && t.ccr.toBits == 0b11000) = true := by decide +kernel
theorem test_HAND_orDnEa : cpu [0x8151] [d 0 0x8001, a 1 0x2000, m16 0x2000 2] (fun t =>
    t.mem.read16 0x2000 == 0x8003 && t.ccr.toBits == 0b01000) = true := by decide +kernel
theorem test_HAND_ori : cpu [0x0080, 0x8000, 0x0001] [d 0 2] (fun t =>
    t.dreg 0 == 0x80000003 && t.ccr.toBits == 0b01000 && t.cpu.pc == 0x1006) = true := by decide +kernel
theorem test_L4_eor : cpu [0xB340] [d 0 0x1AAAA, d 1 0xAAAA] (fun t =>
    t.dreg 0 == 0x10000 && t.ccr.toBits == 0b00100) = true := by decide +kernel
theorem test_EX_eori : cpu [0x0A00, 0x00FF] [d 0 0x1F0] (fun t => t.dreg 0 == 0x10F && t.ccr.toBits == 0) = true := by
  decide +kernel
theorem test_L5_not : cpu [0x4600] [d 0 0xFF] (fun t => t.dreg 0 == 0 && t.ccr.toBits == 0b00100) = true := by
  decide +kernel
theorem test_L6_asl_overflow :
    cpu [0xE540] [d 0 0xC000] (fun t => t.dreg 0 == 0 && t.ccr.toBits == 0b10111) = true := by
  decide +kernel
theorem test_L8_asr : cpu [0xE220] [d 1 8, d 0 0x80] (fun t => t.dreg 0 == 0xFF && t.ccr.toBits == 0b11001) = true := by
  decide +kernel
theorem test_L10_lsl : cpu [0xE368] [d 1 16, d 0 1] (fun t => t.dreg 0 == 0 && t.ccr.toBits == 0b10101) = true := by
  decide +kernel
theorem test_L12_lsl_none : cpu [0xE368] [d 1 64, d 0 0xFFFF, ccr 0b10001] (fun t =>
    t.dreg 0 == 0xFFFF && t.ccr.toBits == 0b11000) = true := by decide +kernel
theorem test_L13_lsr : cpu [0xE2A8] [d 1 32, d 0 0x80000000] (fun t =>
    t.dreg 0 == 0 && t.ccr.toBits == 0b10101) = true := by decide +kernel
theorem test_L15_rol : cpu [0xE398] [d 0 0x80000001, ccr 0b10000] (fun t =>
    t.dreg 0 == 3 && t.ccr.toBits == 0b10001) = true := by decide +kernel
theorem test_L17_ror : cpu [0xE238] [d 1 9, d 0 1] (fun t => t.dreg 0 == 0x80 && t.ccr.toBits == 0b01001) = true := by
  decide +kernel
theorem test_L18_roxl : cpu [0xE370] [d 1 17, d 0 1, ccr 0b10000] (fun t =>
    t.dreg 0 == 1 && t.ccr.toBits == 0b10001) = true := by decide +kernel
theorem test_L21_roxr : cpu [0xE2B0] [d 1 33, d 0 0x80000000] (fun t =>
    t.dreg 0 == 0x80000000 && t.ccr.toBits == 0b01000) = true := by decide +kernel
theorem test_L20_roxr_none : cpu [0xE230] [d 0 1, ccr 0b10000] (fun t =>
    t.dreg 0 == 1 && t.ccr.toBits == 0b10001) = true := by decide +kernel

/-- A memory shift or rotate of the word 8001, X set: the word and X N Z V C after. -/
def memShift (w : Half) (res : Half) (flags : BitVec 5) : Bool :=
  cpu [w] [a 0 0x2000, m16 0x2000 0x8001, ccr 0b10000] (fun t => t.mem.read16 0x2000 == res && t.ccr.toBits == flags)

theorem test_HAND_shifts_memory :
    (memShift 0xE0D0 0xC000 0b11001 && memShift 0xE1D0 0x0002 0b10011 && memShift 0xE2D0 0x4000 0b10001 &&
     memShift 0xE3D0 0x0002 0b10001) = true := by decide +kernel
theorem test_HAND_rotates_memory :
    (memShift 0xE4D0 0xC000 0b11001 && memShift 0xE5D0 0x0003 0b10001 && memShift 0xE6D0 0xC000 0b11001 &&
     memShift 0xE7D0 0x0003 0b10001) = true := by decide +kernel

theorem test_L22_btst_imm : cpu [0x0800, 0x0023] [d 0 8, sr 0x271B] (fun t => t.cpu.sr.toHalf == 0x271B) = true := by
  decide +kernel
theorem test_HAND_btst_reg : cpu [0x0110] [d 0 9, a 0 0x2000, m8 0x2000 2] (fun t => t.ccr.toBits == 0) = true := by
  decide +kernel
theorem test_L23_bchg_reg : cpu [0x0141] [d 0 33] (fun t => t.dreg 1 == 2 && t.ccr.toBits == 0b00100) = true := by
  decide +kernel
theorem test_HAND_bchg_imm : cpu [0x0850, 8] [a 0 0x2000, m8 0x2000 1] (fun t =>
    t.mem.read 0x2000 == 0 && t.ccr.toBits == 0) = true := by decide +kernel
theorem test_L24_bclr_imm : cpu [0x0880, 7] [d 0 0xFF] (fun t => t.dreg 0 == 0x7F && t.ccr.toBits == 0) = true := by
  decide +kernel
theorem test_HAND_bclr_reg : cpu [0x0392] [d 1 0, a 2 0x2000, m8 0x2000 2] (fun t =>
    t.mem.read 0x2000 == 2 && t.ccr.toBits == 0b00100) = true := by decide +kernel
theorem test_L25_bset_reg : cpu [0x03D0] [d 1 9, a 0 0x2000] (fun t =>
    t.mem.read 0x2000 == 2 && t.ccr.toBits == 0b00100) = true := by decide +kernel
theorem test_HAND_bset_imm :
    cpu [0x08C0, 31] [] (fun t => t.dreg 0 == 0x80000000 && t.ccr.toBits == 0b00100) = true := by
  decide +kernel
theorem test_L26_tas : cpu [0x4AD0] [a 0 0x2000, m8 0x2000 0x80] (fun t =>
    t.mem.read 0x2000 == 0x80 && t.ccr.toBits == 0b01000) = true := by decide +kernel
theorem test_EX_tas : cpu [0x4AD0] [a 0 0x2000] (fun t =>
    t.mem.read 0x2000 == 0x80 && t.ccr.toBits == 0b00100) = true := by decide +kernel
theorem test_L27_sf : cpu [0x51C0] [d 0 0xFFFFFFFF] (fun t => t.dreg 0 == 0xFFFFFF00) = true := by decide +kernel
theorem test_L28_seq : cpu [0x57C0] [ccr 0b00100] (fun t => t.dreg 0 == 0xFF && t.ccr.toBits == 0b00100) = true := by
  decide +kernel

/-! ### CPU: control and system -/

theorem test_K1_bne : cpu [0x6604] [] (fun t => t.cpu.pc == 0x1006) = true := by decide +kernel
theorem test_K3_beqW_notTaken : cpu [0x6700, 0x0010] [] (fun t => t.cpu.pc == 0x1004) = true := by decide +kernel
theorem test_K4_bra_odd : cpu [0x60FF] [] (fun t => t.cpu.pc == 0x1000) = true := by decide +kernel
theorem test_K5_bsrW : cpu [0x6100, 0x0010] [] (fun t =>
    t.mem.read32 0xFFC == 0x1004 && t.areg 7 == 0xFFC && t.cpu.pc == 0x1012) = true := by decide +kernel
theorem test_K6_dbra_ends : cpu [0x51C8, 0xFFFC] [d 0 0x10000] (fun t =>
    t.dreg 0 == 0x1FFFF && t.cpu.pc == 0x1004) = true := by decide +kernel
theorem test_K7_dbra_loops : cpu [0x51C8, 0xFFFC] [d 0 2] (fun t => t.dreg 0 == 1 && t.cpu.pc == 0xFFE) = true := by
  decide +kernel
theorem test_K8_dbeq : cpu [0x57C8, 0xFFFC] [d 0 5, ccr 0b00100] (fun t =>
    t.dreg 0 == 5 && t.cpu.pc == 0x1004) = true := by decide +kernel
theorem test_K9_jmp : cpu [0x4ED0] [a 0 0x2001] (fun t => t.cpu.pc == 0x2000) = true := by decide +kernel
theorem test_K10_jsr : cpu [0x4EB8, 0x1234] [] (fun t =>
    t.mem.read32 0xFFC == 0x1004 && t.areg 7 == 0xFFC && t.cpu.pc == 0x1234) = true := by decide +kernel
theorem test_K11_rts : cpu [0x4E75] [a 7 0xFFC, m32 0xFFC 0x1004] (fun t =>
    t.cpu.pc == 0x1004 && t.areg 7 == 0x1000) = true := by decide +kernel
theorem test_K12_rtr : cpu [0x4E77] [a 7 0xFFA, m16 0xFFA 0xFFFF, m32 0xFFC 0x1004] (fun t =>
    t.cpu.sr.toHalf == 0x271F && t.cpu.pc == 0x1004 && t.areg 7 == 0x1000) = true := by decide +kernel
theorem test_K13_rte : cpu [0x4E73] [a 7 0xFFA, m32 0xFFC 0x2000, usp 0x3000] (fun t =>
    t.cpu.sr.toHalf == 0 && t.cpu.pc == 0x2000 && t.cpu.ssp == 0x1000 && t.areg 7 == 0x3000) = true := by decide +kernel
theorem test_K14_rte_user : cpu [0x4E73] [usp 0x3000, sr 0, m32 0x20 0x500] (fun t =>
    t.mem.read16 0xFFA == 0 && t.mem.read32 0xFFC == 0x1000 && t.areg 7 == 0xFFA && t.cpu.usp == 0x3000 &&
    t.cpu.sr.toHalf == 0x2000 && t.cpu.pc == 0x500) = true := by decide +kernel
theorem test_K15_trap : cpu [0x4E41] [sr 0x2715, m32 0x84 0x490] (fun t =>
    t.mem.read16 0xFFA == 0x2715 && t.mem.read32 0xFFC == 0x1002 && t.areg 7 == 0xFFA &&
    t.cpu.sr.toHalf == 0x2715 && t.cpu.pc == 0x490) = true := by decide +kernel
theorem test_K16_trapv_clear : cpu [0x4E76] [] (fun t => t.cpu.pc == 0x1002 && t.areg 7 == 0x1000) = true := by
  decide +kernel
theorem test_K17_trapv : cpu [0x4E76] [sr 0x2702, m32 0x1C 0x600] (fun t =>
    t.mem.read32 0xFFC == 0x1002 && t.mem.read16 0xFFA == 0x2702 && t.cpu.pc == 0x600) = true := by decide +kernel
theorem test_K18_chk_negative : cpu [0x4181] [d 0 0xFFFF, d 1 0x10] (fun t =>
    t.ccr.n && t.areg 7 == 0xFFA && t.cpu.sr.s) = true := by decide +kernel
theorem test_K20_chk_within : cpu [0x4181] [d 0 4, d 1 4, ccr 0b10000] (fun t =>
    t.cpu.pc == 0x1002 && t.ccr.x && t.areg 7 == 0x1000) = true := by decide +kernel
theorem test_K21_illegal : cpu [0x4AFC] [m32 0x10 0x800] (fun t =>
    t.mem.read32 0xFFC == 0x1000 && t.cpu.pc == 0x800) = true := by decide +kernel
theorem test_K22_lineA : cpu [0xA000] [m32 0x28 0x900] (fun t =>
    t.mem.read32 0xFFC == 0x1000 && t.cpu.pc == 0x900) = true := by decide +kernel
theorem test_K23_lineF : cpu [0xFFFF] [m32 0x2C 0xA00] (fun t =>
    t.mem.read32 0xFFC == 0x1000 && t.cpu.pc == 0xA00) = true := by decide +kernel
theorem test_K26_move_ccr : cpu [0x44C0] [d 0 0xFFFFFFFF] (fun t => t.cpu.sr.toHalf == 0x271F) = true := by
  decide +kernel
theorem test_K27_move_from_sr : cpu [0x40C0] [d 0 0xFFFFFFFF] (fun t => t.dreg 0 == 0xFFFF2700) = true := by
  decide +kernel
theorem test_K28_move_sr : cpu [0x46C0] [d 0 0xFFFF] (fun t => t.cpu.sr.toHalf == 0xA71F) = true := by decide +kernel
theorem test_K29_move_sr_user : cpu [0x46FC, 0] [usp 0x3000] (fun t =>
    t.cpu.sr.toHalf == 0 && t.areg 7 == 0x3000 && t.cpu.ssp == 0x1000) = true := by decide +kernel
theorem test_K30_move_usp_user : cpu [0x4E60] [a 0 5, sr 0, m32 0x20 0x500] (fun t =>
    t.mem.read32 0xFFC == 0x1000 && t.cpu.pc == 0x500 && t.cpu.usp == 0) = true := by decide +kernel
theorem test_HAND_move_usp :
    cpu [0x4E6F] [usp 0x3000] (fun t => t.cpu.ssp == 0x3000 && t.cpu.usp == 0x3000) = true := by
  decide +kernel
theorem test_K31_andi_ccr : cpu [0x023C, 0x00FE] [sr 0x271F] (fun t => t.cpu.sr.toHalf == 0x271E) = true := by
  decide +kernel
theorem test_K32_andi_sr : cpu [0x027C, 0xF8FF] [] (fun t => t.cpu.sr.toHalf == 0x2000) = true := by decide +kernel
theorem test_K33_ori_ccr : cpu [0x003C, 0x0010] [sr 0x2000] (fun t => t.cpu.sr.toHalf == 0x2010) = true := by
  decide +kernel
theorem test_EX_ori_sr : cpu [0x007C, 0x0700] [sr 0x2000] (fun t => t.cpu.sr.toHalf == 0x2700) = true := by
  decide +kernel
theorem test_K34_eori_sr : cpu [0x0A7C, 0x2000] [] (fun t => t.cpu.sr.toHalf == 0x0700) = true := by decide +kernel
theorem test_K39_eori_ccr : cpu [0x0A3C, 0x001F] [sr 0x2715] (fun t => t.cpu.sr.toHalf == 0x270A) = true := by
  decide +kernel
theorem test_K35_reset : cpu [0x4E70] [fun s => s.setRisc .gpu { s.risc .gpu with go := true }] (fun t =>
    t.cpu.pc == 0x1002 && (t.risc .gpu).go) = true := by decide +kernel
theorem test_K36_stop : cpu [0x4E72, 0x2000] [] (fun t =>
    t.cpu.sr.toHalf == 0x2000 && t.cpu.run == .stopped && t.cpu.pc == 0x1004) = true := by decide +kernel
theorem test_K37_stop_user : cpu [0x4E72, 0x2000] [sr 0, m32 0x20 0x500] (fun t =>
    t.mem.read32 0xFFC == 0x1000 && t.cpu.pc == 0x500 && t.cpu.run == .running) = true := by decide +kernel
theorem test_nop : cpu [0x4E71] [] (fun t => t.cpu.pc == 0x1002) = true := by decide +kernel

/-! ### Units: arithmetic, logic, shifts (`alu` gives R1, R2, the new R2 and Z N C) -/

theorem test_RA1_RA2_add : (alu 0x0022 1 0xFFFFFFFF 0 0b101 && alu 0x0022 0x7FFFFFFF 1 0x80000000 0b010) = true := by
  decide +kernel
theorem test_RA4_addc :
    both [0x0422] (fun u => [r u 1 0xFFFFFFFF, znc u false false true]) (fun u => r2 u 0 0b101) = true := by
  decide +kernel
theorem test_RA5_addq : both [0x0803] (fun u => [r u 3 0xFFFFFFE0])
    (fun u t => t.rreg u 3 == 0 && (t.risc u).z && (t.risc u).c) = true := by decide +kernel
theorem test_RA6_addqt : both [0x0C85] (fun u => [r u 5 0xFFFFFFFC, znc u false true true])
    (fun u t => t.rreg u 5 == 0 && !(t.risc u).z && (t.risc u).n && (t.risc u).c) = true := by decide +kernel
theorem test_RA7_sub : alu 0x1022 1 0 0xFFFFFFFF 0b011 = true := by decide +kernel
theorem test_RA8_subc : both [0x1422] (fun u => [znc u false false true]) (fun u => r2 u 0xFFFFFFFF 0b011) = true := by
  decide +kernel
theorem test_RA9_subq : both [0x1821] (fun u => [r u 1 1]) (fun u t =>
    t.rreg u 1 == 0 && (t.risc u).z && !(t.risc u).n && !(t.risc u).c) = true := by decide +kernel
theorem test_RA10_subqt : both [0x1C20] (fun u => [znc u true false false]) (fun u t =>
    t.rreg u 0 == 0xFFFFFFFF && (t.risc u).z && !(t.risc u).n && !(t.risc u).c) = true := by decide +kernel
theorem test_RA11_RA12_neg : (alu 0x2002 0 0x80000000 0x80000000 0b011 && alu 0x2002 0 0 0 0b100) = true := by
  decide +kernel
theorem test_RA13_and : both [0x2422] (fun u => [r u 1 0xF0F0F0F0, r u 2 0x0F0F0F0F, znc u false false true])
    (fun u => r2 u 0 0b101) = true := by decide +kernel
theorem test_RA14_or : alu 0x2822 0x80000000 1 0x80000001 0b010 = true := by decide +kernel
theorem test_RA15_xor_same : alu 0x2C42 0 0x12345678 0 0b100 = true := by decide +kernel
theorem test_RA16_not : alu 0x3002 0 0xFFFFFFFF 0 0b100 = true := by decide +kernel
theorem test_RA17_btst : both [0x37E2] (fun u => [r u 2 0x80000000, znc u true false true])
    (fun u => r2 u 0x80000000 0b001) = true := by decide +kernel
theorem test_RA18_RA19_bset_bclr : (alu 0x3862 0 0 8 0b000 && alu 0x3C62 0 8 0 0b100) = true := by decide +kernel
theorem test_RA20_mult : alu 0x4022 0x1234FFFF 0xFFFF 0xFFFE0001 0b010 = true := by decide +kernel
theorem test_RA21_imult : alu 0x4422 0x8000 0x8000 0x40000000 0b000 = true := by decide +kernel
theorem test_RA23_imultn : both [0x4822] (fun u => [r u 1 0xFFFF, r u 2 2]) (fun u t =>
    r2 u 2 0b010 t && t.accLow u == 0xFFFFFFFE && (u == .gpu || t.dsp.acc == 0xFFFFFFFFFE)) = true := by decide +kernel
theorem test_RA22_imacn_resmac :
    (both [0x5064] (fun u => [fun s => s.setAcc u 12, r u 3 5, r u 4 6]) (fun u t =>
      t.accLow u == 42 && t.rreg u 4 == 6) &&
     both [0x4C05] (fun u => [fun s => s.setAcc u 42]) (fun u t => t.rreg u 5 == 0x2A)) = true := by decide +kernel
theorem test_RA24_div : both [0x5422] (fun u => [r u 1 3, r u 2 17]) (fun u t =>
    r2 u 5 0b000 t && (t.risc u).remain == 2) = true := by decide +kernel
theorem test_RA25_to_RA27_div :
    (alu 0x5422 0 17 0xFFFFFFFF 0b000 &&
     both [0x5422] (fun u => [r u 1 3, r u 2 1, fun s => s.setRisc u { s.risc u with divOffset := true }])
       (fun u t => r2 u 0x5555 0b000 t && (t.risc u).remain == 1) &&
     both [0x5422] (fun u => [r u 1 1, r u 2 0x10000, fun s => s.setRisc u { s.risc u with divOffset := true }])
       (fun u t => r2 u 0 0b000 t && (t.risc u).remain == 0)) = true := by decide +kernel
theorem test_RA28_RA29_abs : (alu 0x5802 0 0xFFFFFFFB 5 0b001 && alu 0x5802 0 0x80000000 0x80000000 0b011) = true := by
  decide +kernel
theorem test_RA30_RA31_sh :
    (alu 0x5C22 0xFFFFFFFC 0x80000001 0x10 0b001 && alu 0x5C22 0 0x80000001 0x80000001 0b011) = true := by
  decide +kernel
theorem test_RA32_sh_all : alu 0x5C22 32 0xFFFFFFFF 0 0b101 = true := by decide +kernel
theorem test_RA34_RA35_shlq : (alu 0x6382 0 0x80000001 0x10 0b001 && alu 0x6002 0 0xFFFFFFFF 0 0b101) = true := by
  decide +kernel
theorem test_RA36_RA37_shrq : (alu 0x6482 0 0x80000001 0x08000000 0b001 && alu 0x6402 0 0x80000000 0 0b100) = true := by
  decide +kernel
theorem test_RA39_RA40_sha :
    (alu 0x6822 40 0x80000001 0xFFFFFFFF 0b011 && alu 0x6822 0xFFFFFFFF 0xC0000000 0x80000000 0b011) = true := by
  decide +kernel
theorem test_RA41_RA42_sharq :
    (alu 0x6C82 0 0x80000001 0xF8000000 0b011 && alu 0x6C02 0 0x80000000 0xFFFFFFFF 0b010) = true := by decide +kernel
theorem test_RA44_ror : alu 0x7022 36 0x8000000F 0xF8000000 0b011 = true := by decide +kernel
theorem test_RA45_rorq : alu 0x7402 0 0x80000001 0x80000001 0b011 = true := by decide +kernel
theorem test_RA46_cmp : alu 0x7822 2 1 1 0b011 = true := by decide +kernel
theorem test_RA47_RA48_cmpq : (alu 0x7FE2 0 0xFFFFFFFF 0xFFFFFFFF 0b100 && alu 0x7E02 0 0 0 0b001) = true := by
  decide +kernel

/-! ### Units: moves, loads, stores -/

theorem test_RM1_move : both [0x8822] (fun u => [r u 1 0xDEADBEEF, znc u true true true])
    (fun u => r2 u 0xDEADBEEF 0b111) = true := by decide +kernel
theorem test_RM2_moveq : both [0x8FE0] (fun _ => []) (fun u t => t.rreg u 0 == 31) = true := by decide +kernel
theorem test_RM3_moveta : both [0x9022] (fun u => [r u 1 5]) (fun u t =>
    (t.risc u).bank1[2] == 5 && (t.risc u).bank0[2] == 0) = true := by decide +kernel
theorem test_RM3_movefa : both [0x9443] (fun u => [fun s => s.setBank1 u 2 5]) (fun u t =>
    (t.risc u).bank0[3] == 5) = true := by decide +kernel
theorem test_RM4_movei : both [0x9803, 0x5678, 0x1234] (fun _ => []) (fun u t =>
    t.rreg u 3 == 0x12345678 && (t.risc u).pc.toNat == Config.localBase u + 0x106) = true := by decide +kernel
theorem test_RM5_movePc : both [0xCC02] (fun _ => []) (fun u t =>
    (t.rreg u 2).toNat == Config.localBase u + 0x100) = true := by decide +kernel
theorem test_RM6_loadb : unit .gpu [0x9C22] [r .gpu 1 0x101, m8 0x101 0xAB] (r2 .gpu 0xAB 0) = true := by decide +kernel
theorem test_RM7_loadb_local :
    unit .gpu [0x9C22] [r .gpu 1 0xF03201, m32 0xF03200 0x11223344] (r2 .gpu 0x44 0) = true := by
  decide +kernel
theorem test_RM8_loadw : unit .gpu [0xA022] [r .gpu 1 0x103, m16 0x102 0xBEEF] (r2 .gpu 0xBEEF 0) = true := by
  decide +kernel
theorem test_RM9_loadw_local :
    unit .gpu [0xA022] [r .gpu 1 0xF03200, m32 0xF03200 0x11223344] (r2 .gpu 0x3344 0) = true := by
  decide +kernel
theorem test_RM10_load : unit .gpu [0xA422] [r .gpu 1 0x103, m32 0x100 0x11223344] (r2 .gpu 0x11223344 0) = true := by
  decide +kernel
theorem test_RM13_load_own_flags : unit .gpu [0xA422] [r .gpu 1 0xF02100, znc .gpu true false true]
    (r2 .gpu 3 0b101) = true := by decide +kernel
theorem test_RM14_loadp : unit .gpu [0xA822] [r .gpu 1 0x100, m32 0x100 0x11111111, m32 0x104 0x22222222]
    (fun t => r2 .gpu 0x22222222 0 t && t.gpu.hidata == 0x11111111) = true := by decide +kernel
theorem test_RM15_load_r14q : unit .gpu [0xAC03] [r .gpu 14 0xF03200, m32 0xF03280 0xCAFEF00D]
    (fun t => t.rreg .gpu 3 == 0xCAFEF00D) = true := by decide +kernel
theorem test_RM16_load_r15q :
    unit .gpu [0xB020] [r .gpu 15 0x100, m32 0x104 7] (fun t => t.rreg .gpu 0 == 7) = true := by
  decide +kernel
theorem test_RM17_load_r14m :
    unit .gpu [0xE822] [r .gpu 14 0x100, r .gpu 1 0xFFFFFFFC, m32 0xFC 9] (r2 .gpu 9 0) = true := by
  decide +kernel
theorem test_HAND_load_r15m : unit .dsp [0xEC22] [r .dsp 15 0x100, r .dsp 1 4, m32 0x104 9] (r2 .dsp 9 0) = true := by
  decide +kernel
theorem test_RM18_storeb : unit .gpu [0xB422] [r .gpu 1 0x101, r .gpu 2 0x1234ABCD]
    (fun t => t.mem.read32 0x100 == 0x00CD0000) = true := by decide +kernel
theorem test_RM19_storeb_local : unit .gpu [0xB422] [r .gpu 1 0xF03201, r .gpu 2 0x1234ABCD, m32 0xF03200 0xFFFFFFFF]
    (fun t => t.mem.read32 0xF03200 == 0xCD) = true := by decide +kernel
theorem test_RM20_storew_local : unit .gpu [0xB822] [r .gpu 1 0xF03200, r .gpu 2 0x1234ABCD, m32 0xF03200 0xFFFFFFFF]
    (fun t => t.mem.read32 0xF03200 == 0xABCD) = true := by decide +kernel
theorem test_RM21_storew_other : unit .dsp [0xB822] [r .dsp 1 0xF03200, r .dsp 2 0x1234ABCD, m32 0xF03200 0xFFFFFFFF]
    (fun t => t.mem.read32 0xF03200 == 0xABCDFFFF) = true := by decide +kernel
theorem test_RM22_store : unit .gpu [0xBC22] [r .gpu 1 0x102, r .gpu 2 0x11223344]
    (fun t => t.mem.read32 0x100 == 0x11223344) = true := by decide +kernel
theorem test_RM23_store_rom : unit .gpu [0xBC22] [r .gpu 1 0x800000, r .gpu 2 0x11223344]
    (fun t => t.mem.read32 0x800000 == 0) = true := by decide +kernel
theorem test_RM24_storep :
    unit .gpu [0xC022] [r .gpu 1 0x100, r .gpu 2 0x22222222, fun s => s.setHidata 0x11111111]
      (fun t => t.mem.read32 0x100 == 0x11111111 && t.mem.read32 0x104 == 0x22222222) = true := by decide +kernel
theorem test_RM25_store_r14q : unit .gpu [0xC443] [r .gpu 14 0xF03200, r .gpu 3 5]
    (fun t => t.mem.read32 0xF03208 == 5) = true := by decide +kernel
theorem test_RM26_store_r15q : unit .gpu [0xC803] [r .gpu 15 0x100, r .gpu 3 5]
    (fun t => t.mem.read32 0x180 == 5) = true := by decide +kernel
theorem test_HAND_store_r14m : unit .dsp [0xF022] [r .dsp 14 0x100, r .dsp 1 4, r .dsp 2 6]
    (fun t => t.mem.read32 0x104 == 6) = true := by decide +kernel
theorem test_RM27_store_r15m : unit .gpu [0xF422] [r .gpu 15 0x100, r .gpu 1 8, r .gpu 2 6]
    (fun t => t.mem.read32 0x108 == 6) = true := by decide +kernel

/-! ### Units: control, role-specific -/

theorem test_RC1_jump_slot : unit .gpu [0xD0A0, 0x0820] [r .gpu 5 0xF03201] (fun t =>
    t.rreg .gpu 0 == 1 && (t.risc .gpu).pc == 0xF03200) = true := by decide +kernel
theorem test_RC2_jump_notTaken : unit .gpu [0xD0B8] [r .gpu 5 0xF03200] (fun t =>
    (t.risc .gpu).pc == 0xF03102) = true := by decide +kernel
theorem test_RC4_jr_back : unit .gpu [0xD7C1, 0xE400] [] (fun t => (t.risc .gpu).pc == 0xF030FE) = true := by
  decide +kernel
theorem test_RC6_jr_forward : unit .gpu [0xD5E2, 0xE400] [znc .gpu true false false] (fun t =>
    (t.risc .gpu).pc == 0xF03120) = true := by decide +kernel
theorem test_RC7_movei_in_slot :
    (match exec (.rJr .gpu 0 0) (code 0xF03102 [0x9803] (State.reset.setRpc .gpu 0xF03102)) with
     | .refused x => x == .jumpOrMoveiInSlot
     | .next _ => false
     | .fault _ => false) = true := by decide +kernel
theorem test_RC8_movePc_in_slot : unit .gpu [0xD0A0, 0xCC02] [r .gpu 5 0xF03200] (fun t =>
    t.rreg .gpu 2 == 0xF03102 && (t.risc .gpu).pc == 0xF03200) = true := by decide +kernel
theorem test_RC9_store_own_ctrl :
    unit .gpu [0xBC64] [r .gpu 3 0xF02114, fun s => s.setRisc .gpu { s.risc .gpu with go := true }]
      (fun t => !(t.risc .gpu).go && (t.risc .gpu).pc == 0xF03102) = true := by decide +kernel
theorem test_RC10_nop : both [0xE400] (fun _ => []) (fun u t =>
    (t.risc u).pc.toNat == Config.localBase u + 0x102) = true := by decide +kernel

/-- One instruction of a unit on R2. -/
def on2 (u : Coproc) (w : Half) (x res : Long) (flags : BitVec 3) : Bool := unit u [w] [r u 2 x] (r2 u res flags)

theorem test_RG1_RG2_sat8 : (on2 .gpu 0x8002 0xFFFFFFF0 0 0b100 && on2 .gpu 0x8002 0x12C 0xFF 0b000) = true := by
  decide +kernel
theorem test_RG3_sat16 : on2 .gpu 0x8402 0x12345 0xFFFF 0b000 = true := by decide +kernel
theorem test_RG4_sat24 : on2 .gpu 0xF802 0x7FFFFFFF 0xFFFFFF 0b000 = true := by decide +kernel
theorem test_RG5_pack : on2 .gpu 0xFC02 0x03C1E0AB 0xFFAB 0b000 = true := by decide +kernel
theorem test_RG6_RG7_unpack :
    (on2 .gpu 0xFC22 0xFFAB 0x03C1E0AB 0 && on2 .gpu 0xFFE2 0xFFFFFFFF 0x03C1E0FF 0) = true := by
  decide +kernel
theorem test_RD1_RD2_sat16s :
    (on2 .dsp 0x8402 0x12345 0x7FFF 0b000 && on2 .dsp 0x8402 0xFFFE0000 0xFFFF8000 0b010) = true := by
  decide +kernel
theorem test_RD3_RD4_sat32s :
    (unit .dsp [0xA802] [fun s => s.setAcc .dsp 0x100000000, r .dsp 2 5] (r2 .dsp 0x7FFFFFFF 0b000) &&
     unit .dsp [0xA802] [fun s => s.setAcc .dsp (-2), r .dsp 2 0xFFFFFFFE] (r2 .dsp 0xFFFFFFFE 0b010)) = true := by
  decide +kernel
theorem test_RD5_RD6_addqmod :
    (unit .dsp [0xFC82] [fun s => s.setModulo 0xFFFFFFF0, r .dsp 2 0x100E] (r2 .dsp 0x1002 0b000) &&
     on2 .dsp 0xFC82 0x100E 0x100E 0b000) = true := by decide +kernel
theorem test_RD7_subqmod : unit .dsp [0x8022] [fun s => s.setModulo 0xFFFFFFF0] (r2 .dsp 0xF 0b001) = true := by
  decide +kernel
theorem test_RD8_mirror : on2 .dsp 0xC002 0x12345678 0x1E6A2C48 0b000 = true := by decide +kernel
theorem test_RD9_reserved62 : unit .dsp [0xF800] [] (fun t => (t.risc .dsp).pc == 0xF1B102) = true := by decide +kernel
theorem test_RB1_mtoi : alu 0xDC22 0xC0400000 0 0xFFC00000 0b010 = true := by decide +kernel
theorem test_RB2_RB3_normi : (alu 0xE022 1 0 0xFFFFFFEA 0b010 && alu 0xE022 0x80000000 0 9 0b000) = true := by
  decide +kernel

/-- RG8's state for a matrix width: the program's word stands apart from the matrix at F03100. -/
def matrix (width : BitVec 4) (res : Long) (flags : BitVec 3) : Bool :=
  runAt (.risc .gpu) 0xF03000
    (puts [code 0xF03000 [0xD882], m32 0xF03100 2, m32 0xF03104 3, m32 0xF03108 0xFFFF,
      fun s => s.setRisc .gpu { s.risc .gpu with mtxWidth := width, mtxa := 0x40 },
      fun s => s.setBank1 .gpu 4 0x00050004, fun s => s.setBank1 .gpu 5 6] State.reset) (r2 .gpu res flags)

theorem test_RG8_RG9_mmult : (matrix 3 0x11 0b000 && matrix 0 0 0b100) = true := by decide +kernel

/-! ### Bus, interrupts, scheduler, host calls -/

/-- The value of a CPU read. -/
def rd (sz : Size) (x : Long) (s : State) : BitVec sz.bits := (memRead .cpu sz x s).1

theorem test_B1_to_B7_byteOrder :
    let s := memWrite .cpu .l 0x1000 0x11223344 (memWrite .cpu .l 0x1004 0x55667788 State.reset)
    rd .b 0x1000 s = 0x11 ∧ rd .w 0x1002 s = 0x3344 ∧ rd .w 0xFF001001 s = 0x1122 ∧
    (memRead (.risc .gpu) .l 0x1003 s).1 = 0x11223344 ∧ rd .l 0x1002 s = 0x33445566 ∧ rd .l 0x1001 s = 0x11223344 := by
  decide +kernel
theorem test_B2_B8_unmapped_rom :
    let s := memWrite .cpu .l 0x200000 0x12345678 (m16 0x800000 0xABCD State.reset)
    rd .l 0x200000 s = 0xFFFFFFFF ∧ rd .b 0x200000 s = 0xFF ∧
    rd .w 0x800000 (memWrite .cpu .w 0x800000 0x1234 s) = 0xABCD ∧ fetchWordAt 0xF02114 s = 0xFFFF := by decide +kernel
theorem test_B10_to_B12_units :
    let t := memWrite .cpu .l 0xF02110 0x00F03010 State.reset
    rd .l 0xF02114 State.reset = 0x2800 ∧ rd .b 0xF02116 State.reset = 0x28 ∧ (t.risc .gpu).pc = 0xF03010 := by
  decide +kernel
theorem test_B13_int1 :
    let s := puts [line .cpu 0 false true, line .cpu 1 false true] State.reset
    let t := memWrite .cpu .b 0xF000E1 0x03 s
    let w := memWrite .cpu .b 0xF000E0 0x01 t
    rd .w 0xF000E0 t = 3 ∧ (t.line .cpu 1).enabled = true ∧ rd .w 0xF000E0 w = 2 ∧ (w.line .cpu 0).enabled = true := by
  decide +kernel
theorem test_B14_to_B19 :
    rd .l 0xF02120 State.reset = 0xFFFFFFFF ∧ rd .l 0xF1A120 State.reset = 0 ∧
    memWrite .cpu .l 0xF1A120 5 State.reset = State.reset ∧
    rd .l 0xF02100 (memWrite .cpu .l 0xF02100 0x4007 State.reset) = 0x4007 ∧
    ((memWrite .cpu .l 0xF02100 0x8 State.reset).risc .gpu).imask = false ∧
    rd .w 0xF00058 (memWrite .cpu .w 0xF00058 0x1234 State.reset) = 0x1234 := by decide +kernel

theorem test_I1_latch :
    let s := raiseLine .cpu 1 State.reset
    currentVector .cpu s = none ∧ rd .w 0xF000E0 s = 2 ∧ currentVector .cpu (setEnabled .cpu 1 true s) = some 1 := by
  decide +kernel
theorem test_I4_cpu_interrupt :
    let t := cpuInterruptCheck (puts [line .cpu 0 true true, sr 0x2015, pc 0x1234, m32 0x100 0x440] start)
    t.mem.read16 0xFFA = 0x2015 ∧ t.mem.read32 0xFFC = 0x1234 ∧ t.areg 7 = 0xFFA ∧ t.cpu.sr.toHalf = 0x2215 ∧
    t.cpu.pc = 0x440 ∧ (t.line .cpu 0).pending = true := by decide +kernel
theorem test_I6_gpu_entry :
    let s := puts [line (.risc .gpu) 2 true true, fun s => s.setRpc .gpu 0xF03104, fun s => s.setBank0 .gpu 31 0xF03FF0,
      fun s => s.setRisc .gpu { s.risc .gpu with regpage := true }] State.reset
    let t := riscInterruptCheck .gpu s
    (t.risc .gpu).imask = true ∧ (t.risc .gpu).bank0[31] = 0xF03FEC ∧ t.mem.read32 0xF03FEC = 0xF03102 ∧
    (t.risc .gpu).bank0[30] = 0xF03020 ∧ (t.risc .gpu).pc = 0xF03020 ∧ (t.risc .gpu).regpage = true := by decide +kernel
theorem test_I9_force_interrupt :
    let t := memWrite .cpu .l 0xF1A114 5 State.reset
    (t.line (.risc .dsp) 0).pending = true ∧ (t.risc .dsp).go = true ∧ rd .l 0xF1A114 t = 0x2041 := by decide +kernel

/-- K38 up to the costs: NOP with the trace armed, as a whole step. -/
theorem test_K38_trace :
    holds (step (puts [code 0x1000 [0x4E71], sr 0xA700, m32 0x24 0xB00] start)) (fun t =>
      t.mem.read16 0xFFA == 0xA700 && t.mem.read32 0xFFC == 0x1002 && t.cpu.sr.toHalf == 0x2700 &&
      t.cpu.pc == 0xB00) = true := by decide +kernel
/-- K24: a word without a row, as a whole step. -/
theorem test_K24_noRow : holds (step (puts [code 0x1000 [0x4E7B], m32 0x10 0x800] start)) (fun t =>
    t.mem.read32 0xFFC == 0x1000 && t.cpu.pc == 0x800) = true := by decide +kernel
/-- I13: TRAP, trace and interrupt in one step. -/
theorem test_I13_three_frames :
    holds (step (puts [code 0x1000 [0x4E40], sr 0xA000, line .cpu 0 true true, m32 0x80 0x480, m32 0x100 0x440,
      m32 0x24 0xB00] start)) (fun t =>
      t.mem.read32 0xFFC == 0x1002 && t.mem.read32 0xFF6 == 0x480 && t.mem.read32 0xFF0 == 0xB00 &&
      t.cpu.pc == 0x440) = true := by decide +kernel
theorem test_H1_first_step : holds (step State.reset) (fun t =>
    t.cpu.pc == 4 && t.ccr.toBits == 0b00100 && t.cpu.sr.toHalf == 0x2704) = true := by decide +kernel
theorem test_H3_loadImage :
    let off := State.reset.setRun .off
    ((loadImage [1, 2, 3, 4] .cartRom off).toOption.map fun s => rd .l 0x800000 s) = some 0x01020304 ∧
    (loadImage [1] .clut State.reset).toOption = none ∧ (loadImage [1] .blitter off).toOption = none := by
  decide +kernel
theorem test_H5_to_H7_inspect :
    (readRegister .cpu 17 State.reset).toOption = some 0x2700 ∧
    (readRegister (.risc .gpu) 64 State.reset).toOption = some 0xF03000 ∧
    (readRegister (.risc .dsp) 99 State.reset).toOption = none ∧ (readMemory 0xFFFFFF 2 State.reset).toOption = none ∧
    (readMemory 0xF02114 4 State.reset).toOption = some [0, 0, 0x28, 0] := by decide +kernel
/-- The T1 order of the ties: CPU, then GPU, then DSP. -/
theorem test_T1_ties :
    nextRole State.reset = some .cpu ∧ nextRole (State.reset.setTime .cpu 1) = some (.risc .gpu) ∧
    nextRole ((State.reset.setTime .cpu 1).setTime (.risc .gpu) 1) = some (.risc .dsp) := by decide +kernel
/-- T3 at its last turn: the CPU alone, at time 6 of a frame of 5, no line event fired yet. -/
def frameEnd : State := enableUnit .gpu false (enableUnit .dsp false (State.reset.setTime .cpu 6))

/-- T3: at time 6 of a frame of 5 the line events have fired and the overshoot is carried over. -/
theorem test_T3_frame_end :
    holds (step frameEnd) (fun t => t.sched.tCpu == 1 && t.sched.frameClock == 5 && t.sched.line == 0) = true := by
  decide +kernel
/-- R699: before the first `powerOn` and while on a unit may be switched; after `powerOff` not, nor a stop requested. -/
theorem test_R699_order :
    (((construct regions State.resetParams []).bind (setCoprocessorEnabled .gpu false)).toOption.map
      fun s => s.gpu.core.en) = some false ∧
    ((setCoprocessorEnabled .dsp false State.reset).toOption.map fun s => s.dsp.core.en) = some false ∧
    ((powerOff State.reset).bind (setCoprocessorEnabled .gpu false)).toOption = none ∧
    ((powerOff State.reset).bind requestStop).toOption = none ∧
    (((powerOff State.reset).bind powerOn).bind requestStop).toOption.isSome = true := by decide +kernel
/-- R127: a unit of the default device keeps a word, and merges a byte. -/
theorem test_R127_default :
    let t := memWrite .cpu .b 0xF14001 0x56 (memWrite .cpu .w 0xF14000 0x1234 State.reset)
    rd .w 0xF14000 t = 0x1256 ∧ rd .w 0xF14002 t = 0 := by decide +kernel
/-- R702: a reset returns the default device's storage, and another device's own state, to the initial one. -/
theorem test_R702_device :
    let t := memWrite .cpu .w 0xF14000 0x1234 State.reset
    let s := { t with params := { t.params with device := .handler 0 [7] } }
    t.ext.units ≠ [] ∧ (hostReset t).toOption.map (fun x => x.ext) = some { units := [], own := [] } ∧
    (hostReset s).toOption.map (fun x => x.ext) = some { units := [], own := [7] } := by decide +kernel
/-- R34, R35: what FLAGS and CTRL read after reset and with some bits set; G_CTRL by bytes (R109). -/
theorem test_flags_ctrl_read :
    rd .l 0xF02114 State.reset = 0x2800 ∧ rd .l 0xF1A114 State.reset = 0x2000 ∧
    (memRead (.risc .gpu) .l 0xF1A100 (puts [znc .dsp true false true, line (.risc .dsp) 5 true true] State.reset)).1 =
      0x10003 ∧
    rd .b 0xF02116 State.reset = 0x28 ∧ rd .w 0xF02116 State.reset = 0x2800 := by decide +kernel
/-- The instruction placed by `withFetchWord` is the one the next step runs. -/
theorem test_withFetchWord : holds (step (State.reset.withFetchWord 16 0x7E80)) (fun t =>
    t.dreg 7 == 0xFFFFFF80 && t.cpu.pc == 2) = true := by decide +kernel

/-! ### Witnesses: for each obligation with hypotheses, a state and operands that meet them together, for each clause,
at the ends of the ranges -/

/-- A result that passes a test is a next state. -/
theorem next_of_holds {o : Result} {p : State → Bool} (h : holds o p = true) : ∃ t, o = .next t ∧ p t = true := by
  match o, h with
  | .next t, h => exact ⟨t, rfl, h⟩

/-- Addresses of one writable byte array meet the premise of `ByteArrayAccess` and `InterruptDelivery`. -/
theorem inStore {l : List Nat} {g : Region} (h : ∀ x ∈ l, regionAt x = some g)
    (hg : g.backing = .bytes ∧ g.readable = true ∧ g.writable = true) :
    ∀ x ∈ l, ∃ g, regionAt x = some g ∧ g.backing = .bytes ∧ g.readable = true ∧ g.writable = true :=
  fun x hx => ⟨g, h x hx, hg⟩

/-- A state whose lines are those of reset has no active line. -/
theorem noneActive {s : State} (h : s.cpuLines = State.reset.cpuLines ∧ s.gpu.lines = State.reset.gpu.lines ∧
    s.dsp.lines = State.reset.dsp.lines) : ∀ p k, s.lineActive p k = false := by
  intro p k
  obtain ⟨h1, h2, h3⟩ := h
  match p with
  | .cpu => simp only [State.lineActive, State.line, h1]; split <;> simp [State.reset, State.resetLine, noLine]
  | .risc .gpu =>
    simp only [State.lineActive, State.line, h2]; split <;> simp [State.reset, State.resetGpu, State.resetLine, noLine]
  | .risc .dsp =>
    simp only [State.lineActive, State.line, h3]; split <;> simp [State.reset, State.resetDsp, State.resetLine, noLine]

/-- The machine in user mode. -/
def user : State := puts [sr 0, usp 0x3000] start

theorem witness_DecodeEncodeCpu :
    (Instr.moveB (.predec 7) .imm).role = .cpu ∧ (Instr.moveB (.predec 7) .imm).wellFormed = true ∧
    decode .cpu 0x1F3C = .ok (.moveB (.predec 7) .imm) := by decide +kernel
theorem witness_DecodeEncodeRisc :
    (Instr.rMovei .gpu 31).role = .risc .gpu ∧ (Instr.dAddqmod 31 31).role = .risc .dsp ∧
    (Instr.rMovei .gpu 31).wellFormed = true ∧ (Instr.dAddqmod 31 31).wellFormed = true ∧
    (1 : BitVec 5) ≠ 0 ∧ (31 : BitVec 5) ≠ 0 := by decide
theorem witness_AccessStages_unmapped :
    (([0x200000, 0x7FFFFC, 0xF02120, 0xF04000, 0xFFFFFC, 0xFF200000] : List Long).all fun x =>
      (regionAt (x.toNat % 0x1000000 / 4 * 4)).isNone &&
      (regionAt ((x + 2).toNat % 0x1000000 / 4 * 4)).isNone) = true := by
  decide +kernel
theorem witness_AccessStages_capabilities :
    (([0x800000, 0xDFFFFF, 0xE00000, 0xF1DFFF] : List Long).all fun x =>
      (regionAt (x.toNat % 0x1000000 / 4 * 4)).map Region.writable == some false) = true ∧
    (([0xF00000, 0xF02114, 0xF1A123, 0xF1DFFE] : List Long).all fun x =>
      (regionAt (x.toNat % 0x1000000 / 4 * 4)).map Region.executable == some false) = true ∧
    (([0, 0x1FFFFF, 0x800000, 0xE1FFFF, 0xF03000, 0xFFF1CFFF] : List Long).all fun x =>
      (regionAt (x.toNat % 0x1000000 / 4 * 4)).map Region.executable == some true) = true := by decide +kernel
theorem witness_AccessStages_aligned :
    (0xFF000003 : Long).toNat % 0x1000000 / 4 = (0 : Long).toNat % 0x1000000 / 4 ∧
    (0xFF000003 : Long).toNat % 0x1000000 / 2 = (2 : Long).toNat % 0x1000000 / 2 ∧
    (0xFF000003 : Long).toNat % 0x1000000 = (3 : Long).toNat % 0x1000000 := by decide +kernel
theorem witness_ByteArrayAccess :
    State.reset.mem.wf = true ∧ State.reset.defaultDevices ∧
    (∀ x ∈ accessBytes .cpu .l 0x1FFFFC, ∃ g, regionAt x = some g ∧ g.backing = .bytes ∧ g.readable = true ∧
      g.writable = true) ∧
    (∀ x ∈ accessBytes (.risc .gpu) .l 0xFFF03FFF, ∃ g, regionAt x = some g ∧ g.backing = .bytes ∧ g.readable = true ∧
      g.writable = true) :=
  ⟨by decide, rfl, inStore (g := region .mainRam) (by decide +kernel) (by decide),
    inStore (g := region .gpuLocal) (by decide +kernel) (by decide)⟩
/-- The first and the last units of ExtDevice at their widths, and another device than the default one. -/
theorem witness_ByteArrayAccess_device :
    ((regionAt 0xF02200).map Region.backing = some (.ext Size.l.bytes) ∧
     (regionAt 0xF1A0FE).map Region.backing = some (.ext Size.w.bytes) ∧
     (regionAt 0xF003FE).map Region.backing = some .tomRegs ∧ (0xF003FE : Long) ≠ 0xF0004E) ∧
    State.reset.params.device = .default ∧ State.reset.ext.units.wf = true ∧
    ({ State.resetParams with device := .handler 0 [] } : Params).device = .handler 0 [] := by decide +kernel
/-- Two words of ROM, in two regions. -/
theorem witness_ByteArrayAccess_rom :
    (∀ x ∈ accessBytes .cpu .l 0xDFFFFE, ∃ g, regionAt x = some g ∧ g.backing = .bytes ∧ g.readable = true) ∧
    (∀ x ∈ accessBytes (.risc .dsp) .l 0xF1DFFF,
      ∃ g, regionAt x = some g ∧ g.backing = .bytes ∧ g.readable = true) := by
  refine ⟨fun x hx => ?_, fun x hx => ⟨region .waveRom, ?_, by decide⟩⟩
  · have h : regionAt x = some (region .cartRom) ∨ regionAt x = some (region .bootRom) := by
      revert x; decide +kernel
    rcases h with h | h
    · exact ⟨_, h, by decide⟩
    · exact ⟨_, h, by decide⟩
  · revert x; decide +kernel
theorem witness_device_units :
    ((regionAt 0xF02100).map (·.backing.unit) = some 4 ∧ (regionAt 0xF1A120).map (·.backing.unit) = some 4 ∧
     (regionAt 0xF022FC).map (·.backing.unit) = some 4 ∧ (regionAt 0xF1AFFC).map (·.backing.unit) = some 4) ∧
    ((regionAt 0xF0004E).map (·.backing.unit) = some 2 ∧ (regionAt 0xF003FE).map (·.backing.unit) = some 2 ∧
     (regionAt 0xF10000).map (·.backing.unit) = some 2 ∧ (regionAt 0xF1A0FC).map (·.backing.unit) = some 2) ∧
    BytesReplaced 4 1 0 0xAA 0x11223344 0xAA223344 ∧ BytesReplaced 4 1 3 0xAA 0x11223344 0x112233AA ∧
    BytesReplaced 4 2 0 0xAABB 0x11223344 0xAABB3344 ∧ BytesReplaced 4 2 2 0xAABB 0x11223344 0x1122AABB ∧
    BytesReplaced 2 1 0 0xAA 0x1122 0xAA22 ∧ BytesReplaced 2 1 1 0xAA 0x1122 0x11AA := by
  unfold BytesReplaced; decide +kernel
theorem witness_Int1_mergeBase : ∀ k, (0 : Half).getLsbD k = (decide (k < 5) && (State.reset.line .cpu k).enabled) := by
  intro k
  by_cases h : k < 5 <;> simp [h, State.line, State.reset, State.resetLine]
theorem witness_OperandEvaluation :
    (7 : Fin 8).val = (0xFFFF : Half).toNat / 2 ^ 12 % 8 ∧ 2 ^ 15 ≤ (0xFFFF : Half).toNat ∧
    (0x07FF : Half).getLsbD 11 = false ∧ (0x0800 : Half).getLsbD 11 = true ∧
    (regionAt (start.cpu.pc.toNat % 2 ^ 24 / 2 * 2)).map Region.executable = some true := by decide +kernel
theorem witness_FlagsAndCtrl : ((Coproc.dsp = .dsp ∧ 5 < 6) ∨ 5 < 5) ∧ ((Coproc.gpu = .dsp ∧ 4 < 6) ∨ 4 < 5) := by
  decide
theorem witness_OperandAccess :
    State.reset.defaultDevices ∧ (∀ k, EA.ind 7 ≠ .postinc k ∧ EA.ind 7 ≠ .predec k) ∧
    (EA.postinc 0 ≠ .postinc 7 ∧ EA.postinc 0 ≠ .predec 7) := ⟨rfl, by decide, by decide⟩
theorem witness_MovemLoad :
    State.reset.defaultDevices ∧ EA.postinc 7 = .postinc 7 ∧ ∀ k, EA.pcDisp ≠ .postinc k := ⟨rfl, rfl, by decide⟩

/-- A MOVEM mask of all sixteen registers at `pc`, and A0. -/
def movemAt (x : Long) : State := puts [m16 0x1000 0xFFFF, a 0 x] start

theorem witness_MovemStore_predec :
    (movemAt 64).mem.wf = true ∧ ((movemAt 64).areg 0).toNat % 2 = 0 ∧
    4 * maskRank (fetch16 .cpu (movemAt 64)).1 16 = 64 ∧ ((movemAt 64).areg 0).toNat = 64 ∧
    (movemAt 0x200000).mem.wf = true ∧ ((movemAt 0x200000).areg 0).toNat ≤ 0x200000 := by decide +kernel
theorem witness_MovemStore_up :
    let s := movemAt 0x1FFFC0
    let x := (addrEA (.ind 0) (fetch16 .cpu s).2).1.toNat
    s.mem.wf = true ∧ (∀ k, EA.ind 0 ≠ .predec k) ∧ x % 2 = 0 ∧ x + 4 * maskRank (fetch16 .cpu s).1 16 = 0x200000 := by
  decide +kernel
theorem witness_Movep :
    let s := puts [a 0 0x1FFFFB, m16 0x1000 0xFFFE] start
    s.mem.wf = true ∧ s.params.device = .default ∧ (s.areg 0 + (fetch16 .cpu s).1.signExtend 32).toNat + 7 = 0x200000 := by
  decide +kernel
theorem witness_AddSubFamily : EA.an 7 = .an 7 ∧ ∀ k, EA.dn 7 ≠ .an k := ⟨rfl, by decide⟩
theorem witness_AddressMoves : (locEA (.ind 7) .l start).1 = .mem 0x1000 ∧ (locEA .absW .l start).1 = .mem 0 := by
  decide +kernel
theorem witness_MultiplyDivide :
    let s : Long → State := fun x => puts [d 0 x, d 1 1] start
    (readEA (.dn 1) .w (s 0)).1.toNat = 1 ∧ (readEA (.dn 1) .w (s 0)).1.toInt ≠ 0 ∧
    (readEA (.dn 2) .w (s 0)).1.toNat = 0 ∧
    ((s 0xFFFF).dreg 0).toNat < 0x10000 * 1 ∧ 0x10000 * 1 ≤ ((s 0x10000).dreg 0).toNat ∧
    ((s 0xFFFF8000).dreg 0).toInt = -32768 * 1 + 0 := by decide +kernel
theorem witness_MultiplyDivide_fits : FitsSigned 16 (-32768) ∧ FitsSigned 16 32767 ∧ ¬ FitsSigned 16 32768 := by
  unfold FitsSigned; decide
theorem witness_DecimalArithmetic : isBcd 0x99 ∧ isBcd 0x00 := by unfold isBcd; decide
theorem witness_FlagLaws : 0 < 1 := by decide
theorem witness_Branches :
    condHolds .eq (puts [ccr 4] start).ccr = true ∧ condHolds .eq start.ccr = false ∧
    (start.dreg 0).toNat % 2 ^ 16 = 0 ∧ ((puts [d 0 0xFFFF] start).dreg 0).toNat % 2 ^ 16 ≠ 0 := by decide +kernel
theorem witness_JumpsAndReturns : (locEA (.ind 7) .l start).1 = .mem 0x1000 ∧ start.defaultDevices :=
  ⟨by decide +kernel, rfl⟩
theorem witness_MemKept : State.reset.mem.wf = true ∧ State.reset.defaultDevices := ⟨by decide, rfl⟩
theorem witness_ExceptionSequence :
    (puts [a 7 6] start).mem.wf = true ∧ FrameInRam (puts [a 7 6] start) ∧ FrameInRam (puts [a 7 0x200000] start) := by
  unfold FrameInRam; decide +kernel
theorem witness_TrapInstructions :
    (puts [ccr 2] start).cpu.sr.ccr.v = true ∧ start.cpu.sr.ccr.v = false ∧
    (let s : Long → State := fun x => puts [d 0 x, d 1 4] start
     let b := (readEA (.dn 1) .w (s 0)).1.toInt
     (0 ≤ ((s 4).dregAt .w 0).toInt ∧ ((s 4).dregAt .w 0).toInt ≤ b) ∧ 0 ≤ ((s 0).dregAt .w 0).toInt ∧
     ((s 0xFFFF).dregAt .w 0).toInt < 0 ∧ b < ((s 5).dregAt .w 0).toInt) := by decide +kernel
theorem witness_PrivilegedInstructions :
    user.cpu.sr.s = false ∧
    Instr.stop ∈ [Instr.rte, .moveEaSr (.dn 0), .moveAnUsp 7, .moveUspAn 7, .andiToSr, .oriToSr, .eoriToSr, .reset,
      .stop] ∧ start.cpu.sr.s = true ∧ start.params.device = .default := by decide +kernel
theorem witness_ExceptionRoundTrip :
    let s := puts [a 7 6] start
    s.mem.wf = true ∧ s.defaultDevices ∧ FrameInRam s := ⟨by decide +kernel, rfl, by unfold FrameInRam; decide +kernel⟩
theorem witness_UserModeConfined :
    Instr.nop.role = .cpu ∧ user.cpu.sr.s = false ∧ exec .nop user = .next user ∧
    ∃ t, exec .rte user = .next t ∧ t.cpu.sr.s = true :=
  ⟨rfl, rfl, rfl, next_of_holds (p := fun t => t.cpu.sr.s) (by decide +kernel)⟩

/-! #### Units -/

theorem witness_RiscMultiplyDivide :
    (State.reset.rreg .gpu 1).toNat = 0 ∧ ((r .dsp 1 1 State.reset).rreg .dsp 1).toNat ≠ 0 ∧
    ((r .dsp 1 0x80000000 State.reset).rreg .dsp 1).toInt < 0 := by decide +kernel
theorem witness_RiscShiftsRotates :
    ((r .gpu 1 0x80000000 State.reset).rreg .gpu 1).toInt < 0 ∧ 0 ≤ (State.reset.rreg .gpu 1).toInt := by decide +kernel
theorem witness_RiscLoads_RiscStores :
    State.reset.params.device = .default ∧ inLocal .gpu 0xF03000 = true ∧ inLocal .gpu 0xFFF03FFF = true ∧
    inLocal .gpu 0xF02FFF = false ∧ inLocal .gpu 0xF04000 = false ∧ inLocal .dsp 0xF1CFFF = true ∧
    inLocal .dsp 0xF1D000 = false := by decide +kernel

/-- A unit with a word in the slot of its jump. -/
def slot (u : Coproc) (w : Half) : State :=
  puts [code (Config.localBase u + 2) [w], fun s => s.setRpc u (BitVec.ofNat 32 (Config.localBase u + 2))] State.reset

theorem witness_JumpAndDelaySlot :
    let word : State → Half := fun s => (fetch16 (.risc .gpu) (s.chargeFetched (.risc .gpu))).1
    decode (.risc .gpu) (word (slot .gpu 0xE400)) = .ok (.rNop .gpu) ∧
    decode (.risc .gpu) (word (slot .gpu 0xD400)) = .ok (.rJr .gpu 0 0) ∧
    decode (.risc .gpu) (word (slot .gpu 0xD0A0)) = .ok (.rJump .gpu 5 0) ∧
    decode (.risc .gpu) (word (slot .gpu 0x9803)) = .ok (.rMovei .gpu 3) ∧
    (∀ c : BitVec 5, c = 0 → c.getLsbD 0 = false ∧ c.getLsbD 1 = false ∧ c.getLsbD 2 = false ∧ c.getLsbD 3 = false) ∧
    ((1 : BitVec 5).getLsbD 0 = true ∧ (znc .gpu true false false State.reset).gpu.core.z = true) := by decide +kernel
theorem witness_RiscSpecials :
    (State.reset.rreg .gpu 1).toNat = 0 ∧ ((r .gpu 1 0xFFFFFFFF State.reset).rreg .gpu 1).toNat ≠ 0 := by decide +kernel
theorem witness_MatrixMultiply : State.reset.defaultDevices := rfl
theorem witness_InstructionFrames :
    Instr.nop.role = .cpu ∧ exec .nop start = .next start ∧ (Instr.rNop .dsp).role = .risc .dsp ∧
    Coproc.gpu ≠ .dsp ∧ exec (.rNop .dsp) start = .next start := ⟨rfl, rfl, rfl, by decide, rfl⟩

/-! #### Interrupts -/

theorem witness_InterruptController :
    (State.reset.line .cpu 4).enabled = false ∧ currentVector .cpu State.reset = none ∧
    currentVector (.risc .dsp) (line (.risc .dsp) 5 true true State.reset) = some 5 ∧
    (line (.risc .dsp) 5 true true State.reset).lineActive (.risc .dsp) 5 = true := by decide +kernel
theorem witness_InterruptDelivery_cpu :
    (let s := puts [sr 0x2100, line .cpu 0 true true] start
     (∃ k, s.lineActive .cpu k = true) ∧ s.cpu.sr.i.toNat < 2 ∧ FrameInRam s) ∧
    2 ≤ (sr 0x2200 start).cpu.sr.i.toNat ∧ ∀ k, start.lineActive .cpu k = false :=
  ⟨⟨⟨0, by decide +kernel⟩, by decide +kernel, by unfold FrameInRam; decide +kernel⟩, by decide +kernel,
    noneActive ⟨rfl, rfl, rfl⟩ .cpu⟩

/-- The DSP with its highest line active and its stack at the top of its local memory. -/
def dspInterrupted : State :=
  puts [line (.risc .dsp) 5 true true, fun s => s.setBank0 .dsp 31 0xF1D000] State.reset

theorem witness_InterruptDelivery_unit :
    dspInterrupted.lineActive (.risc .dsp) 5 = true ∧
    (∀ j, dspInterrupted.lineActive (.risc .dsp) j = true → j ≤ 5) ∧ (dspInterrupted.risc .dsp).imask = false ∧
    dspInterrupted.mem.wf = true ∧
    (∀ x ∈ accessBytes (.risc .dsp) .l ((dspInterrupted.risc .dsp).bank0[31] - 4), ∃ g, regionAt x = some g ∧
      g.backing = .bytes ∧ g.readable = true ∧ g.writable = true) ∧
    (∀ k, State.reset.lineActive (.risc .gpu) k = false) := by
  refine ⟨by decide +kernel, fun j h => ?_, by decide +kernel, by decide +kernel,
    inStore (g := region .dspLocal) (by decide +kernel) (by decide), noneActive ⟨rfl, rfl, rfl⟩ _⟩
  refine Nat.le_of_not_lt fun hj => ?_
  simp [State.lineActive, State.line, Nat.not_lt.mpr hj, noLine] at h

/-! #### Steps -/

/-- The choice of the scheduler as a test. -/
def pickedB (p : Role) (s : State) : Bool :=
  eligible s p && roles.all fun q => !eligible s q || decide (s.time p < s.time q) ||
    (decide (s.time p = s.time q) && decide (tieRank p ≤ tieRank q))

/-- What `eligible` tests. -/
theorem eligible_iff (s : State) (p : Role) : eligible s p = true ↔ IsEligible s p := by
  rcases p with _ | u <;> simp [eligible, IsEligible]

theorem picked_of {p : Role} {s : State} (h : pickedB p s = true) : Picked p s := by
  simp only [pickedB, roles, List.all_cons, List.all_nil, Bool.and_true, Bool.and_eq_true, Bool.or_eq_true,
    Bool.not_eq_true', decide_eq_true_eq] at h
  refine ⟨(eligible_iff s p).1 h.1, fun q hq => ?_⟩
  have he := (eligible_iff s q).2 hq
  obtain ⟨-, h1, h2, h3⟩ := h
  rcases q with _ | ⟨_ | _⟩
  · simpa [he] using h1
  · simpa [he] using h2
  · simpa [he] using h3

theorem stepsNext_of {p : Role} {s : State} (h : (s.cpu.run != .off && pickedB p s &&
    decide (s.time p < s.params.frameBudget) && !s.sched.stopRequested) = true) : StepsNext p s := by
  simp only [Bool.and_eq_true, bne_iff_ne, decide_eq_true_eq, Bool.not_eq_true'] at h
  exact ⟨h.1.1.1, picked_of h.1.1.2, h.1.2, h.2⟩

/-- The GPU awake with words at its `pc`, and next to step. -/
def gpuNext (ws : List Half) : State :=
  puts [code 0xF03000 ws, fun s => s.setRisc .gpu { s.risc .gpu with go := true }, fun s => s.setTime .cpu 1]
    State.reset

/-- A state at time 1, where a line event is due. -/
def later (s : State) : State := { s with sched := { s.sched with tCpu := 1, tGpu := 1, tDsp := 1 } }

theorem witness_RiscStepRunsInstruction :
    (let s := gpuNext [0xE400]
     StepsNext (.risc .gpu) s ∧ (s.risc .gpu).go = true ∧
     decode (.risc .gpu) (fetchWordAt ((afterLines (.risc .gpu) s).risc .gpu).pc (afterLines (.risc .gpu) s)) =
       .ok (.rNop .gpu)) ∧
    (let s := gpuNext [0xD400, 0x9803]
     StepsNext (.risc .gpu) s ∧ (s.risc .gpu).go = true ∧
     decode (.risc .gpu) (fetchWordAt ((afterLines (.risc .gpu) s).risc .gpu).pc (afterLines (.risc .gpu) s)) =
       .ok (.rJr .gpu 0 0)) :=
  ⟨⟨stepsNext_of (by decide +kernel), by decide +kernel, by decide +kernel⟩,
    ⟨stepsNext_of (by decide +kernel), by decide +kernel, by decide +kernel⟩⟩
theorem witness_RiscStepRunsInstruction_outcomes :
    (∀ s, exec (.rNop .gpu) s = .next s) ∧
    holds (exec (.rJr .gpu 0 0) ((gpuNext [0xD400, 0x9803]).setRpc .gpu 0xF03002)) (fun _ => true) = false :=
  ⟨fun _ => rfl, by decide +kernel⟩
theorem witness_CpuStepRunsInstruction :
    (let s := later (puts [code 0x1000 [0x4E71]] start)
     StepsNext .cpu s ∧ s.cpu.run = .running ∧ (afterLines .cpu s).sched.line = 1 ∧
     decode .cpu (fetchWordAt (afterLines .cpu s).cpu.pc (afterLines .cpu s)) = .ok .nop) ∧
    (let s := puts [code 0x1000 [0x4E7B]] start
     StepsNext .cpu s ∧ s.cpu.run = .running ∧ afterLines .cpu s = s ∧ s.cpu.pc.getLsbD 0 = false ∧
     decode .cpu (fetchWordAt s.cpu.pc s) = .error .noRow ∧ FrameInRam s ∧ s.mem.wf = true) := by
  refine ⟨⟨stepsNext_of (by decide +kernel), by decide +kernel⟩, stepsNext_of (by decide +kernel), ?_⟩
  unfold FrameInRam; decide +kernel
theorem witness_CpuStepRunsInstruction_lines :
    (∀ k, (puts [code 0x1000 [0x4E7B]] start).lineActive .cpu k = false) ∧ ∀ s, exec .nop s = .next s :=
  ⟨noneActive ⟨rfl, rfl, rfl⟩ .cpu, fun _ => rfl⟩
theorem witness_IdleStep :
    (let s := start.setRun .stopped
     StepsNext .cpu s ∧ s.cpu.run = .stopped ∧ afterLines .cpu s = s ∧ 2 ≤ s.cpu.sr.i.toNat) ∧
    (let s := start.setTime .cpu 1
     StepsNext (.risc .gpu) s ∧ (s.risc .gpu).go = false ∧ afterLines (.risc .gpu) s = s) :=
  ⟨⟨stepsNext_of (by decide +kernel), by decide +kernel⟩, stepsNext_of (by decide +kernel), by decide +kernel⟩
theorem witness_IdleStep_lines : ∀ p k, start.lineActive p k = false := noneActive ⟨rfl, rfl, rfl⟩
/-- T3 is an instance of the frame end: it starts at line 0. -/
theorem witness_LineAndFrameEvents :
    State.reset.defaultDevices ∧ State.reset.sched.line ≤ State.reset.params.lines ∧
    (frameEnd.cpu.run ≠ .off ∧ Picked .cpu frameEnd ∧ frameEnd.params.frameBudget ≤ frameEnd.time .cpu ∧
      frameEnd.defaultDevices ∧ frameEnd.sched.line = 0 ∧ frameEnd.sched.line ≤ frameEnd.params.lines) ∧
    (let s : State := { State.reset with sched := { State.resetSched with stopRequested := true } }
     s.cpu.run ≠ .off ∧ Picked .cpu s ∧ s.time .cpu < s.params.frameBudget ∧ s.sched.stopRequested = true) :=
  ⟨rfl, by decide, ⟨by decide, picked_of (by decide +kernel), by decide +kernel, rfl, by decide +kernel⟩, by decide,
    picked_of (by decide +kernel), by decide +kernel⟩
theorem witness_StepKeepsInvariant : Inv start ∧ ∃ t, step start = .next t ∧ true = true :=
  ⟨by constructor <;> decide +kernel, next_of_holds (p := fun _ => true) (by decide +kernel)⟩
theorem witness_StepNeverFails :
    (start.setRun .off).cpu.run = .off ∧ start.cpu.run ≠ .off ∧ Instr.trapv.role = .cpu := by decide +kernel
/-- A taken JR over MOVEI, and a NOP, which is no jump. -/
theorem witness_StepNeverFails_slot :
    ForbiddenSlot .gpu (.rJr .gpu 0 0) ((gpuNext [0xD400, 0x9803]).setRpc .gpu 0xF03002) ∧
    ¬ ForbiddenSlot .gpu (.rNop .gpu) (gpuNext [0xE400]) := by
  refine ⟨⟨⟨0, .inr ⟨0, rfl⟩, by unfold JumpTaken; decide +kernel⟩, .rMovei .gpu 3, by decide +kernel,
    .inr (.inr ⟨.gpu, 3, rfl⟩)⟩, ?_⟩
  rintro ⟨⟨c, ⟨m, h⟩ | ⟨q, h⟩, -⟩, -⟩ <;> cases h
theorem witness_DisabledUnitFrozen :
    let s := enableUnit .gpu false start
    (s.risc .gpu).en = false ∧ ∃ t, step s = .next t ∧ true = true :=
  ⟨by decide +kernel, next_of_holds (p := fun _ => true) (by decide +kernel)⟩

/-! #### Host calls -/

theorem witness_RunFrameEnds :
    State.reset.params.Valid ∧ (start.setRun .off).cpu.run = .off ∧ StepsNext .cpu (start.setRun .stopped) ∧
    (∃ w, step (start.setRun .stopped) = .next w ∧ pickedB (.risc .gpu) w = true) ∧
    StepsNext (.risc .gpu) (gpuNext [0xD400, 0x9803]) :=
  ⟨by constructor <;> decide, rfl, stepsNext_of (by decide +kernel),
    next_of_holds (p := pickedB (.risc .gpu)) (by decide +kernel), stepsNext_of (by decide +kernel)⟩
theorem witness_ResetState :
    State.reset.cpu.run ≠ .off ∧ (State.reset.setRun .off).cpu.run = .off ∧ 0 < 1 ∧
    [region .gpuLocal, region .gpuLocal][0]? = some (region .gpuLocal) ∧
    [region .gpuLocal, region .gpuLocal][1]? = some (region .gpuLocal) ∧
    (region .gpuLocal).contains 0xF03FFF = true := by decide +kernel
theorem witness_HostCalls :
    (State.reset.setRun .off).cpu.run = .off ∧ (State.reset.setRun .off).powered = true ∧ State.reset.cpu.run ≠ .off ∧
    (enableUnit .gpu false State.reset).gpu.core.en = false ∧ IsEligible (enableUnit .gpu false State.reset) .cpu ∧
    2 ^ 24 < 0xFFFFFF + 2 ∧ 0xFFFFFF + 1 ≤ 2 ^ 24 ∧
    ((regionAt 0xF0004F).map Region.backing = some .tomRegs ∧
     (regionAt 0xF02114).map Region.backing = some (.ctrl .gpu) ∧
     (regionAt 0xF02200).map Region.backing = some (.ext 4) ∧ (regionAt 0xF1DFFF).map Region.backing = some .bytes ∧
     regionAt 0xFFFFFF = none) ∧
    (readMemory 0x1000 2 (puts [code 0x1000 [0x4E72]] start)).toOption = some [0x4E, 0x72] ∧
    decode .cpu ((0x4E : Byte) ++ (0x72 : Byte)) = .ok .stop := by unfold IsEligible; decide +kernel
theorem witness_LoadImage :
    let off := State.reset.setRun .off
    off.mem.wf = true ∧ State.reset.cpu.run ≠ .off ∧ off.cpu.run = .off ∧ (region .blitter).backing ≠ .bytes ∧
    (region .clut).backing = .bytes ∧
    (region .clut).stop < (region .clut).start + (List.replicate 1025 (0 : Byte)).length ∧
    (region .clut).start + (List.replicate 1024 (0 : Byte)).length = (region .clut).stop := by decide +kernel

end Sys2Proof.Tests
end

section
/-! What an instruction of a processor, a bus access and a line event leave as it was, as one value: `State.outside`. -/
namespace Sys2Proof.Machine

/-! ### Outside the reach of an instruction -/

/-- The registers of a unit that no bus access reaches: the banks, REMAIN and the accumulator (R30, R41, R42). -/
structure UnitRegs where
  bank0 : Vector Long 32
  bank1 : Vector Long 32
  remain : Long
  acc : Nat

/-- The accumulator of a unit as a number; the two widths differ (R42). -/
def State.accNat (s : State) : Coproc → Nat
  | .gpu => s.gpu.acc.toNat
  | .dsp => s.dsp.acc.toNat

/-- The registers of a unit that only the unit's own steps change. -/
def State.unitRegs (s : State) (u : Coproc) : UnitRegs :=
  { bank0 := (s.risc u).bank0, bank1 := (s.risc u).bank1, remain := (s.risc u).remain, acc := s.accNat u }

/-- What no instruction of a processor changes: the fields of `State.outside`. -/
structure Outside where
  params : Params
  powered : Bool
  sched : Sched
  cpuCycles : Nat
  en : Coproc → Bool
  cycles : Coproc → Nat
  bystander : Coproc → Option UnitRegs

/-- What lies outside the reach of an instruction of `p`: parameters, life cycle, scheduler, power bits, every cycle
counter, and the registers of each unit other than `p`. -/
def State.outside (s : State) (p : Role) : Outside :=
  { params := s.params, powered := s.powered, sched := s.sched, cpuCycles := s.cpu.cycles,
    en := fun u => (s.risc u).en, cycles := fun u => (s.risc u).cycles,
    bystander := fun u => if p = .risc u then none else some (s.unitRegs u) }

theorem outside_of_busKeeps {s t : State} (h : BusKeeps s t) (hp : t.powered = s.powered) (p : Role) :
    t.outside p = s.outside p := by
  have hu : ∀ u, t.unitRegs u = s.unitRegs u := fun u => by
    cases u <;> simp [State.unitRegs, State.accNat, h.bank0, h.bank1, h.remain, h.gpuAcc, h.dspAcc]
  simp only [State.outside, h.params, hp, h.sched, h.cpu, h.en, h.cycles, hu]

theorem outside_of_same {s t : State} (h : Same s t) (hc : t.cpu.cycles = s.cpu.cycles) (p : Role) :
    t.outside p = s.outside p := by
  have hu : ∀ u, t.unitRegs u = s.unitRegs u := fun u => by
    simp only [State.unitRegs, h.risc]
    cases u <;> simp [State.accNat, h.gpu, h.dsp]
  have hp : t.powered = s.powered := by rw [h]; rfl
  simp only [State.outside, h.params, hp, h.sched, hc, h.risc, hu]

/-! ### Accesses and the life cycle -/

@[simp] theorem State.setLine_powered (s : State) (p : Role) (k : Nat) (l : Line) :
    (s.setLine p k l).powered = s.powered := by
  rcases p with _ | ⟨_ | _⟩ <;> simp only [State.setLine] <;> split <;> rfl

@[simp] theorem raiseLine_powered (p : Role) (k : Nat) (s : State) : (raiseLine p k s).powered = s.powered :=
  State.setLine_powered ..

@[simp] theorem setEnabled_powered (p : Role) (k : Nat) (b : Bool) (s : State) :
    (setEnabled p k b s).powered = s.powered := State.setLine_powered ..

@[simp] theorem clearLineIf_powered (p : Role) (k : Nat) (b : Bool) (s : State) :
    (clearLineIf p k b s).powered = s.powered := by
  unfold clearLineIf
  split
  · exact State.setLine_powered ..
  · rfl

@[simp] theorem extRaises_powered (l : List (Role × Nat)) (s : State) : (extRaises l s).powered = s.powered := by
  induction l generalizing s with
  | nil => rfl
  | cons c rest ih => exact (ih _).trans (raiseLine_powered c.1 c.2 s)

@[simp] theorem extEffect_powered (r : ExtResponse) (s : State) : (extEffect r s).powered = s.powered :=
  extRaises_powered ..

@[simp] theorem extCall_powered (c : ExtCall) (s : State) : (extCall c s).powered = s.powered := by
  unfold extCall
  split
  · rfl
  · exact extEffect_powered ..

@[simp] theorem extWrite_powered (unit ua : Nat) (v : Long) (s : State) :
    (extWrite unit ua v s).powered = s.powered := by
  unfold extWrite
  split
  · rfl
  · exact extEffect_powered ..

@[simp] theorem regRead_powered (r : DevReg) (s : State) : (regRead r s).2.powered = s.powered := by
  cases r with
  | ext unit ua => exact extCall_powered ..
  | _ => rfl

@[simp] theorem regWrite_powered (r : DevReg) (v : Long) (s : State) : (regWrite r v s).powered = s.powered := by
  cases r with
  | int1 => simp [regWrite, writeInt1]
  | flags u => simp [regWrite, writeFlags]
  | ctrl u =>
    simp only [regWrite, writeCtrl, State.setRisc_powered]
    split <;> split <;> simp
  | ext unit ua => exact extWrite_powered ..
  | hidataOrMod u => cases u <;> rfl
  | pcPort u => exact State.setRpc_powered ..
  | mtxc u | mtxa u | endian u | remain u => exact State.setRisc_powered ..
  | vi | machi => rfl

@[simp] theorem busRead_powered (sz : Size) (a : Nat) (s : State) : (busRead sz a s).2.powered = s.powered := by
  have device : ∀ b, (deviceRead b sz a s).2.powered = s.powered := fun b => by
    unfold deviceRead
    split <;> simp
  unfold busRead
  split
  · rfl
  · split
    · split
      · rfl
      · exact device _
    · rfl

@[simp] theorem busWrite_powered (sz : Size) (a : Nat) (v : BitVec sz.bits) (s : State) :
    (busWrite sz a v s).powered = s.powered := by
  have device : ∀ b, (deviceWrite b sz a v s).powered = s.powered := fun b => by
    unfold deviceWrite
    split <;> simp
  unfold busWrite
  split
  · rfl
  · split
    · split
      · rfl
      · exact device _
    · rfl

@[simp] theorem memRead_powered (p : Role) (sz : Size) (a : Long) (s : State) :
    (memRead p sz a s).2.powered = s.powered := by
  cases sz <;> cases p
  case l.cpu => exact (busRead_powered ..).trans (busRead_powered ..)
  all_goals exact busRead_powered ..

@[simp] theorem memWrite_powered (p : Role) (sz : Size) (a : Long) (v : BitVec sz.bits) (s : State) :
    (memWrite p sz a v s).powered = s.powered := by
  cases sz <;> cases p
  case l.cpu => exact (busWrite_powered ..).trans (busWrite_powered ..)
  all_goals exact busWrite_powered ..

section
variable (p q : Role) (s : State)

@[simp] theorem outside_memRead (sz : Size) (a : Long) : (memRead q sz a s).2.outside p = s.outside p :=
  outside_of_busKeeps (memRead_readKeeps q sz a s).busKeeps (memRead_powered q sz a s) p

@[simp] theorem outside_memWrite (sz : Size) (a : Long) (v : BitVec sz.bits) :
    (memWrite q sz a v s).outside p = s.outside p :=
  outside_of_busKeeps (memWrite_busKeeps q sz a v s) (memWrite_powered q sz a v s) p

@[simp] theorem outside_readByte (a : Long) : (readByte q a s).2.outside p = s.outside p := outside_memRead ..
@[simp] theorem outside_readWord (a : Long) : (readWord q a s).2.outside p = s.outside p := outside_memRead ..
@[simp] theorem outside_readLong (a : Long) : (readLong q a s).2.outside p = s.outside p := outside_memRead ..
@[simp] theorem outside_writeByte (a : Long) (v : Byte) : (writeByte q a v s).outside p = s.outside p :=
  outside_memWrite ..
@[simp] theorem outside_writeWord (a : Long) (v : Half) : (writeWord q a v s).outside p = s.outside p :=
  outside_memWrite ..
@[simp] theorem outside_writeLong (a v : Long) : (writeLong q a v s).outside p = s.outside p := outside_memWrite ..

/-! ### The CPU's registers -/

@[simp] theorem outside_setDreg (r : Fin 8) (v : Long) : (s.setDreg r v).outside p = s.outside p :=
  outside_of_same (same_setDreg s r v) rfl p
@[simp] theorem outside_setDregAt (sz : Size) (r : Fin 8) (v : BitVec sz.bits) :
    (s.setDregAt sz r v).outside p = s.outside p := outside_of_same (same_setDregAt s sz r v) rfl p
@[simp] theorem outside_setAreg (r : Fin 8) (v : Long) : (s.setAreg r v).outside p = s.outside p :=
  outside_of_same (same_setAreg s r v) (State.setAreg_cpu_cycles s r v) p
@[simp] theorem outside_setUsp (v : Long) : (s.setUsp v).outside p = s.outside p :=
  outside_of_same (same_setUsp s v) rfl p
@[simp] theorem outside_setPc (v : Long) : (s.setPc v).outside p = s.outside p :=
  outside_of_same (same_setPc s v) rfl p
@[simp] theorem outside_setSr (r : StatusReg) : (s.setSr r).outside p = s.outside p :=
  outside_of_same (same_setSr s r) rfl p
@[simp] theorem outside_setCcr (f : Ccr) : (s.setCcr f).outside p = s.outside p :=
  outside_of_same (same_setCcr s f) rfl p
@[simp] theorem outside_setRun (r : CpuRun) : (s.setRun r).outside p = s.outside p :=
  outside_of_same (same_setRun s r) rfl p
@[simp] theorem outside_addStepCycles (c : Nat) : (s.addStepCycles c).outside p = s.outside p :=
  outside_of_same (same_addStepCycles s c) rfl p
@[simp] theorem outside_chargeFetched : (s.chargeFetched q).outside p = s.outside p :=
  outside_of_same (same_chargeFetched s q) rfl p
@[simp] theorem outside_beginStep : (beginStep s).outside p = s.outside p :=
  outside_of_same (same_patch s s.cpu [] 0) rfl p

/-! ### The CPU's operands, stack and exceptions -/

@[simp] theorem outside_fetch16_cpu : (fetch16 .cpu s).2.outside p = s.outside p :=
  outside_of_same (same_fetch16 s) rfl p
@[simp] theorem outside_fetchImm (sz : Size) : (fetchImm sz s).2.outside p = s.outside p :=
  outside_of_same (same_fetchImm sz s) (by cases sz <;> rfl) p
@[simp] theorem outside_locEA (ea : EA) (sz : Size) : (locEA ea sz s).2.outside p = s.outside p :=
  outside_of_same (same_locEA ea sz s) (locEA_cpu ea sz s).2.2.2 p
@[simp] theorem outside_addrEA (ea : EA) : (addrEA ea s).2.outside p = s.outside p := outside_locEA ..

@[simp] theorem outside_readLoc (l : Loc) (sz : Size) : (readLoc l sz s).2.outside p = s.outside p := by
  cases l with
  | mem a => exact outside_memRead ..
  | dreg r | areg r | imm v => rfl

@[simp] theorem outside_writeLoc (l : Loc) (sz : Size) (v : BitVec sz.bits) :
    (writeLoc l sz v s).outside p = s.outside p := by
  cases l with
  | mem a => exact outside_memWrite ..
  | dreg r => exact outside_setDregAt ..
  | areg r => exact outside_setAreg ..
  | imm _ => rfl

@[simp] theorem outside_readEA (ea : EA) (sz : Size) : (readEA ea sz s).2.outside p = s.outside p := by
  simp [readEA]
@[simp] theorem outside_readAddrOperand (sz : LongSize) (ea : EA) :
    (readAddrOperand sz ea s).2.outside p = s.outside p := by simp [readAddrOperand]
@[simp] theorem outside_writeEA (ea : EA) (sz : Size) (v : BitVec sz.bits) :
    (writeEA ea sz v s).outside p = s.outside p := by simp [writeEA]

section
variable {sz : Size} (op : BitVec sz.bits → Ccr → BitVec sz.bits × Ccr)
  (op2 : BitVec sz.bits → BitVec sz.bits → Ccr → BitVec sz.bits × Ccr)

@[simp] theorem outside_modifyEA (ea : EA) : (modifyEA ea sz op s).outside p = s.outside p := by simp [modifyEA]
@[simp] theorem outside_modifyDreg (r : Fin 8) : (modifyDreg r sz op s).outside p = s.outside p := by
  simp [modifyDreg]
@[simp] theorem outside_eaToDreg (r : Fin 8) (ea : EA) : (eaToDreg r sz ea op2 s).outside p = s.outside p := by
  simp [eaToDreg]
@[simp] theorem outside_dregToEa (r : Fin 8) (ea : EA) : (dregToEa r sz ea op2 s).outside p = s.outside p := by
  simp [dregToEa]
@[simp] theorem outside_immToEa (ea : EA) : (immToEa sz ea op2 s).outside p = s.outside p := by simp [immToEa]
@[simp] theorem outside_extendedForm (x : Fin 8) (mode : XMode) (y : Fin 8) :
    (extendedForm x sz mode y op2 s).outside p = s.outside p := by
  cases mode <;> simp [extendedForm]

end

@[simp] theorem outside_push32 (v : Long) : (push32 v s).outside p = s.outside p := by simp [push32]
@[simp] theorem outside_push16 (v : Half) : (push16 v s).outside p = s.outside p := by simp [push16]
@[simp] theorem outside_pop32 : (pop32 s).2.outside p = s.outside p := by simp [pop32]
@[simp] theorem outside_pop16 : (pop16 s).2.outside p = s.outside p := by simp [pop16]

@[simp] theorem outside_takeException (k : ExcKind) (a : Long) : (takeException k a s).outside p = s.outside p := by
  simp [takeException]
@[simp] theorem outside_takeIllegal : (takeIllegal s).outside p = s.outside p := outside_takeException ..
@[simp] theorem outside_returnFromException : (returnFromException s).outside p = s.outside p := by
  simp [returnFromException]

theorem outside_privileged {effect : State → State} (h : ∀ s, (effect s).outside p = s.outside p) :
    (privileged effect s).outside p = s.outside p := by
  unfold privileged
  split
  · exact h s
  · exact outside_takeException ..

@[simp] theorem outside_traceIf (due : Bool) : (traceIf due s).outside p = s.outside p := by
  cases due
  · rfl
  · exact outside_takeException ..

@[simp] theorem outside_cpuInterruptCheck : (cpuInterruptCheck s).outside p = s.outside p := by
  unfold cpuInterruptCheck
  split
  · rfl
  · split
    · exact outside_takeException ..
    · rfl

/-! ### The CPU's own forms -/

@[simp] theorem outside_moveAt (sz : Size) (dst src : EA) : (moveAt sz dst src s).outside p = s.outside p := by
  simp [moveAt]
@[simp] theorem outside_moveaAt (sz : LongSize) (r : Fin 8) (ea : EA) :
    (moveaAt sz r ea s).outside p = s.outside p := by simp [moveaAt]
@[simp] theorem outside_addaAt (sz : LongSize) (r : Fin 8) (ea : EA) :
    (addaAt sz r ea s).outside p = s.outside p := by simp [addaAt]
@[simp] theorem outside_subaAt (sz : LongSize) (r : Fin 8) (ea : EA) :
    (subaAt sz r ea s).outside p = s.outside p := by simp [subaAt]
@[simp] theorem outside_cmpaAt (sz : LongSize) (r : Fin 8) (ea : EA) :
    (cmpaAt sz r ea s).outside p = s.outside p := by simp [cmpaAt]
@[simp] theorem outside_btstAt (b : Nat) (ea : EA) : (btstAt b ea s).outside p = s.outside p := by simp [btstAt]
@[simp] theorem outside_fetchBitNumber : (fetchBitNumber s).2.outside p = s.outside p := outside_fetch16_cpu ..
@[simp] theorem outside_shiftDreg (k : ShiftKind) (c : ShiftCount) (sz : Size) (r : Fin 8) :
    (shiftDreg k c sz r s).outside p = s.outside p := outside_modifyDreg ..
@[simp] theorem outside_shiftEa (k : ShiftKind) (ea : EA) : (shiftEa k ea s).outside p = s.outside p :=
  outside_modifyEA ..
@[simp] theorem outside_immToCcr (op : BitVec 5 → BitVec 5 → BitVec 5) :
    (immToCcr op s).outside p = s.outside p := by simp [immToCcr]
@[simp] theorem outside_immToSr (op : Half → Half → Half) : (immToSr op s).outside p = s.outside p := by
  simp [immToSr]

@[simp] theorem outside_branchTarget (disp : Byte) : (branchTarget disp s).2.outside p = s.outside p := by
  unfold branchTarget
  split
  · exact outside_fetch16_cpu ..
  · rfl

@[simp] theorem outside_setMovemReg (i : Nat) (v : Long) : (setMovemReg i v s).outside p = s.outside p := by
  unfold setMovemReg
  split
  · exact outside_setDreg ..
  · split
    · exact outside_setAreg ..
    · rfl

@[simp] theorem outside_movemStoreUp (sz : LongSize) (l : List Nat) (a : Long) :
    (movemStoreUp sz l a s).outside p = s.outside p := by
  induction l generalizing a s with
  | nil => rfl
  | cons i rest ih => simp [movemStoreUp, ih]

@[simp] theorem outside_movemStoreDown (sz : LongSize) (l : List Nat) (a : Long) :
    (movemStoreDown sz l a s).2.outside p = s.outside p := by
  induction l generalizing a s with
  | nil => rfl
  | cons i rest ih => simp [movemStoreDown, ih]

@[simp] theorem outside_movemLoad (sz : LongSize) (l : List Nat) (a : Long) :
    (movemLoad sz l a s).2.outside p = s.outside p := by
  induction l generalizing a s with
  | nil => rfl
  | cons i rest ih => simp [movemLoad, ih]

@[simp] theorem outside_movepStore (l : List Byte) (a : Long) : (movepStore l a s).outside p = s.outside p := by
  induction l generalizing a s with
  | nil => rfl
  | cons b rest ih => simp [movepStore, ih]

@[simp] theorem outside_movepLoadWord (a : Long) : (movepLoadWord a s).2.outside p = s.outside p := by
  simp [movepLoadWord]

end

/-! ### A unit's registers -/

section
variable (u : Coproc) (s : State)

theorem outside_setRisc (r : Risc) (he : r.en = (s.risc u).en) (hc : r.cycles = (s.risc u).cycles) :
    (s.setRisc u r).outside (.risc u) = s.outside (.risc u) := by
  simp only [State.outside, State.setRisc_params, State.setRisc_powered, State.setRisc_sched, State.setRisc_cpu,
    Outside.mk.injEq, true_and]
  refine ⟨?_, ?_, ?_⟩ <;> funext w
  · cases u <;> cases w <;> first | rfl | exact he
  · cases u <;> cases w <;> first | rfl | exact hc
  · cases u <;> cases w <;> rfl

@[simp] theorem outside_setBank0 (n : Fin 32) (v : Long) :
    (s.setBank0 u n v).outside (.risc u) = s.outside (.risc u) := outside_setRisc u s _ rfl rfl
@[simp] theorem outside_setBank1 (n : Fin 32) (v : Long) :
    (s.setBank1 u n v).outside (.risc u) = s.outside (.risc u) := outside_setRisc u s _ rfl rfl
@[simp] theorem outside_setRpc (v : Long) : (s.setRpc u v).outside (.risc u) = s.outside (.risc u) :=
  outside_setRisc u s _ rfl rfl
@[simp] theorem outside_setZN (z n : Bool) : (s.setZN u z n).outside (.risc u) = s.outside (.risc u) :=
  outside_setRisc u s _ rfl rfl
@[simp] theorem outside_setZNC (z n c : Bool) : (s.setZNC u z n c).outside (.risc u) = s.outside (.risc u) :=
  outside_setRisc u s _ rfl rfl

@[simp] theorem outside_setRreg (n : Fin 32) (v : Long) :
    (s.setRreg u n v).outside (.risc u) = s.outside (.risc u) := by
  unfold State.setRreg
  split
  · exact outside_setBank1 ..
  · exact outside_setBank0 ..

@[simp] theorem outside_setAltReg (n : Fin 32) (v : Long) :
    (s.setAltReg u n v).outside (.risc u) = s.outside (.risc u) := by
  unfold State.setAltReg
  split
  · exact outside_setBank0 ..
  · exact outside_setBank1 ..

@[simp] theorem outside_setHidata (p : Role) (v : Long) : (s.setHidata v).outside p = s.outside p := by
  simp only [State.outside, Outside.mk.injEq]
  refine ⟨rfl, rfl, rfl, rfl, ?_, ?_, ?_⟩ <;> funext w <;> cases w <;> rfl

@[simp] theorem outside_setAcc (x : Int) : (s.setAcc u x).outside (.risc u) = s.outside (.risc u) := by
  simp only [State.outside, Outside.mk.injEq]
  cases u <;> refine ⟨rfl, rfl, rfl, rfl, ?_, ?_, ?_⟩ <;> funext w <;> cases w <;> rfl

@[simp] theorem outside_addAcc (x : Int) : (s.addAcc u x).outside (.risc u) = s.outside (.risc u) := by
  simp only [State.outside, Outside.mk.injEq]
  cases u <;> refine ⟨rfl, rfl, rfl, rfl, ?_, ?_, ?_⟩ <;> funext w <;> cases w <;> rfl

end
end Sys2Proof.Machine
end

section
/-! What an instruction can answer, and that a decoder answers its own processor's instructions only. -/
namespace Sys2Proof.Machine

/-! ### The units' own forms -/

section
variable (u : Coproc) (s : State)

@[simp] theorem outside_fetch16_risc : (fetch16 (.risc u) s).2.outside (.risc u) = s.outside (.risc u) := by
  rw [fetch16_risc]
  exact (outside_of_same (same_patch _ _ _ _) rfl _).trans (outside_setRpc u s ((s.risc u).pc + 2))

@[simp] theorem outside_setZNof (r : Long) : (setZNof u r s).outside (.risc u) = s.outside (.risc u) :=
  outside_setZN ..
@[simp] theorem outside_setZNCof (rc : Long × Bool) : (setZNCof u rc s).outside (.risc u) = s.outside (.risc u) :=
  outside_setZNC ..
@[simp] theorem outside_writeZN (n : Fin 32) (r : Long) :
    (writeZN u n r s).outside (.risc u) = s.outside (.risc u) := by simp [writeZN]
@[simp] theorem outside_writeZNC (n : Fin 32) (rc : Long × Bool) :
    (writeZNC u n rc s).outside (.risc u) = s.outside (.risc u) := by simp [writeZNC]
@[simp] theorem outside_modMerge (n : Fin 32) (t : Long × Bool) :
    (modMerge n t s).outside (.risc .dsp) = s.outside (.risc .dsp) := outside_writeZNC ..
@[simp] theorem outside_riscLoad (a : Long) (n : Fin 32) :
    (riscLoad u a n s).outside (.risc u) = s.outside (.risc u) := by simp [riscLoad]

@[simp] theorem outside_loadByte (p : Role) (a : Long) : (loadByte u a s).2.outside p = s.outside p := by
  unfold loadByte
  split
  · exact outside_readLong ..
  · exact outside_readByte ..
@[simp] theorem outside_loadWord (p : Role) (a : Long) : (loadWord u a s).2.outside p = s.outside p := by
  unfold loadWord
  split
  · exact outside_readLong ..
  · exact outside_readWord ..
@[simp] theorem outside_storeByte (p : Role) (a v : Long) : (storeByte u a v s).outside p = s.outside p := by
  unfold storeByte
  split
  · exact outside_writeLong ..
  · exact outside_writeByte ..
@[simp] theorem outside_storeWord (p : Role) (a v : Long) : (storeWord u a v s).outside p = s.outside p := by
  unfold storeWord
  split
  · exact outside_writeLong ..
  · exact outside_writeWord ..

@[simp] theorem outside_mmultLoop (p : Role) (m : Fin 32) (stride : Long) (left i : Nat) (a : Long) (acc : Int) :
    (mmultLoop u m stride left i a acc s).2.outside p = s.outside p := by
  induction left generalizing i a acc s with
  | zero => rfl
  | succ left ih => simp [mmultLoop, ih]

@[simp] theorem outside_riscEntry (k : Nat) : (riscEntry u k s).outside (.risc u) = s.outside (.risc u) := by
  simp only [riscEntry, outside_setRpc, outside_setBank0, outside_writeLong]
  exact outside_setRisc u s _ rfl rfl

@[simp] theorem outside_riscInterruptCheck :
    (riscInterruptCheck u s).outside (.risc u) = s.outside (.risc u) := by
  unfold riscInterruptCheck
  split
  · rfl
  · split
    · rfl
    · simp only [outside_addStepCycles, outside_riscEntry]
      exact outside_setRisc u s _ rfl rfl

end

/-! ### The decoder answers its own processor's instructions (R206) -/

/-- Every instruction that a row gives is one of the processor. -/
def Gives (p : Role) (row : Row) : Prop := ∀ w i, row.build w = some i → i.role = p

theorem role_of_firstRow {p : Role} {rows : List Row} (h : ∀ row ∈ rows, Gives p row) {w : Half} {i : Instr}
    (hi : firstRow rows w = some i) : i.role = p := by
  induction rows with
  | nil => cases hi
  | cons row rest ih =>
    have rest_role := ih fun r hr => h r (List.mem_cons_of_mem _ hr)
    simp only [firstRow] at hi
    split at hi
    · split at hi
      next j hj => exact Option.some.inj hi ▸ h row List.mem_cons_self w j hj
      next => exact rest_role hi
    · exact rest_role hi

section
variable {p : Role} {mask pattern : Half} {cls : EAClass} {sz : Size}

theorem gives_some {k : Half → Instr} (h : ∀ w, (k w).role = p) : Gives p ⟨mask, pattern, fun w => some (k w)⟩ :=
  fun w _ e => Option.some.inj e ▸ h w

theorem gives_map {α : Type} {f : Half → Option α} {k : Half → α → Instr} (h : ∀ w a, (k w a).role = p) :
    Gives p ⟨mask, pattern, fun w => (f w).map (k w)⟩ := fun w i e => by
  obtain ⟨a, -, rfl⟩ := Option.map_eq_some_iff.mp e
  exact h w a

theorem gives_sized {f : Half → Option Size} {g : Size → Half → Option EA} {k : Half → Size → EA → Instr}
    (h : ∀ w sz e, (k w sz e).role = p) :
    Gives p ⟨mask, pattern, fun w => match f w with
      | some sz => (g sz w).map (k w sz)
      | none => none⟩ := fun w i e => by
  simp only at e
  split at e
  next sz _ =>
    obtain ⟨a, -, rfl⟩ := Option.map_eq_some_iff.mp e
    exact h w sz a
  next => cases e

theorem gives_fixed {i : Instr} (h : i.role = p) : Gives p ⟨mask, pattern, Shape.fixed i⟩ :=
  gives_some fun _ => h
theorem gives_reg {k : Fin 8 → Instr} (h : ∀ r, (k r).role = p) : Gives p ⟨mask, pattern, Shape.reg k⟩ :=
  gives_some fun _ => h _
theorem gives_regReg {k : Fin 8 → Fin 8 → Instr} (h : ∀ r q, (k r q).role = p) :
    Gives p ⟨mask, pattern, Shape.regReg k⟩ := gives_some fun _ => h _ _
theorem gives_decimal {k : Fin 8 → XMode → Fin 8 → Instr} (h : ∀ x m y, (k x m y).role = p) :
    Gives p ⟨mask, pattern, Shape.decimal k⟩ := gives_some fun _ => h _ _ _
theorem gives_mn {k : Fin 32 → Fin 32 → Instr} (h : ∀ m n, (k m n).role = p) :
    Gives p ⟨mask, pattern, Shape.mn k⟩ := gives_some fun _ => h _ _
theorem gives_n {k : Fin 32 → Instr} (h : ∀ n, (k n).role = p) : Gives p ⟨mask, pattern, Shape.n k⟩ :=
  gives_some fun _ => h _
theorem gives_qn {k : BitVec 5 → Fin 32 → Instr} (h : ∀ q n, (k q n).role = p) :
    Gives p ⟨mask, pattern, Shape.qn k⟩ := gives_some fun _ => h _ _
theorem gives_ea {k : EA → Instr} (h : ∀ e, (k e).role = p) : Gives p ⟨mask, pattern, Shape.ea cls sz k⟩ :=
  gives_map fun _ => h
theorem gives_regEa {k : Fin 8 → EA → Instr} (h : ∀ r e, (k r e).role = p) :
    Gives p ⟨mask, pattern, Shape.regEa cls sz k⟩ := gives_map fun _ => h _
theorem gives_movem {k : LongSize → EA → Instr} (h : ∀ z e, (k z e).role = p) :
    Gives p ⟨mask, pattern, Shape.movem cls k⟩ := gives_map fun _ => h _
theorem gives_extended {k : Fin 8 → Size → XMode → Fin 8 → Instr} (h : ∀ x z m y, (k x z m y).role = p) :
    Gives p ⟨mask, pattern, Shape.extended k⟩ := gives_map fun _ z => h _ z _ _
theorem gives_regSizeReg {k : Fin 8 → Size → Fin 8 → Instr} (h : ∀ x z y, (k x z y).role = p) :
    Gives p ⟨mask, pattern, Shape.regSizeReg k⟩ := gives_map fun _ z => h _ z _
theorem gives_shift {k : ShiftCount → Size → Fin 8 → Instr} (h : ∀ c z r, (k c z r).role = p) :
    Gives p ⟨mask, pattern, Shape.shift k⟩ := gives_map fun _ z => h _ z _
theorem gives_sizeEa {k : Size → EA → Instr} (h : ∀ z e, (k z e).role = p) :
    Gives p ⟨mask, pattern, Shape.sizeEa cls k⟩ := gives_sized fun _ => h
theorem gives_regSizeEa {k : Fin 8 → Size → EA → Instr} (h : ∀ r z e, (k r z e).role = p) :
    Gives p ⟨mask, pattern, Shape.regSizeEa cls k⟩ := gives_sized fun _ => h _
theorem gives_quickSizeEa {k : BitVec 3 → Size → EA → Instr} (h : ∀ q z e, (k q z e).role = p) :
    Gives p ⟨mask, pattern, Shape.quickSizeEa cls k⟩ := gives_sized fun _ => h _

theorem gives_move {k : EA → EA → Instr} (h : ∀ d e, (k d e).role = p) :
    Gives p ⟨mask, pattern, Shape.move sz k⟩ := fun w i e => by
  simp only [Shape.move] at e
  split at e
  · exact Option.some.inj e ▸ h _ _
  · cases e

theorem gives_ite {c : Half → Prop} [DecidablePred c] {k : Half → Instr} (h : ∀ w, (k w).role = p) :
    Gives p ⟨mask, pattern, fun w => if c w then none else some (k w)⟩ := fun w i e => by
  simp only at e
  split at e
  · cases e
  · exact Option.some.inj e ▸ h w

end

/-- The rows of the opcode maps, each by the lemma of its shape. The discharger's `id` keeps the condition as the lemma
asks it, where `rfl` alone would state the role twice. -/
theorem cpuRows_gives : ∀ row ∈ cpuRows, Gives .cpu row := by
  simp (disch := intros; exact id rfl) only [cpuRows, cpuRows1, cpuRows2, cpuRows3, cpuRows4, cpuRows5, cpuRows6,
    cpuRows7, cpuRows8, cpuRows9, cpuRows10, List.cons_append, List.nil_append, List.forall_mem_cons, List.not_mem_nil,
    false_implies, implies_true, and_true, gives_some, gives_map, gives_ite, gives_fixed, gives_reg, gives_regReg,
    gives_decimal, gives_ea, gives_regEa, gives_movem, gives_extended, gives_regSizeReg, gives_shift, gives_sizeEa,
    gives_regSizeEa, gives_quickSizeEa, gives_move]

theorem riscRows_gives (u : Coproc) : ∀ row ∈ riscRows u, Gives (.risc u) row := by
  cases u <;>
    simp (disch := intros; exact id rfl) only [riscRows, bothRows, bothRows1, bothRows2, bothRows3, bothRows4,
      bothRows5, gpuRows, gpuRows1, dspRows, dspRows1, List.cons_append, List.nil_append, List.forall_mem_cons,
      List.not_mem_nil, false_implies, implies_true, and_true, gives_some, gives_fixed, gives_mn, gives_n, gives_qn]

/-- What a decoder answers is an instruction of its processor (R206). -/
theorem role_of_decode {p : Role} {w : Half} {i : Instr} (h : decode p w = .ok i) : i.role = p := by
  cases p with
  | cpu =>
    simp only [decode] at h
    split at h
    next j hj => exact Except.ok.inj h ▸ role_of_firstRow cpuRows_gives hj
    next => cases h
  | risc u =>
    simp only [decode] at h
    split at h
    next j hj => exact Except.ok.inj h ▸ role_of_firstRow (riscRows_gives u) hj
    next => cases h

end Sys2Proof.Machine
end

section
/-! What `exec` can answer: a next state that keeps all that lies outside the processor's reach, or the one refusal. -/
namespace Sys2Proof.Machine

/-- An answer of an instruction of `p` at `s`: a next state with all that lies outside its reach as it was, or the
refusal of R493. No instruction faults (R100, R612, R629). -/
def Answers (p : Role) (s : State) : Result → Prop
  | .next t => t.outside p = s.outside p
  | .fault _ => False
  | .refused r => r = .jumpOrMoveiInSlot

theorem answers_privileged {effect : State → State} (h : ∀ s, (effect s).outside .cpu = s.outside .cpu) (s : State) :
    Answers .cpu s (.next (privileged effect s)) := outside_privileged .cpu s h

section
variable (s : State)

theorem execMovemRegsEa_answers (sz : LongSize) (ea : EA) : Answers .cpu s (execMovemRegsEa sz ea s) := by
  cases ea <;> simp [execMovemRegsEa, Answers]

theorem execMovemEaRegs_answers (sz : LongSize) (ea : EA) : Answers .cpu s (execMovemEaRegs sz ea s) := by
  cases ea <;> simp [execMovemEaRegs, Answers]

theorem execMovep_answers (r : Fin 8) (dir : MovepDir) (sz : LongSize) (a : Fin 8) :
    Answers .cpu s (execMovep r dir sz a s) := by
  cases dir <;> cases sz <;> simp [execMovep, Answers]

theorem execAddq_answers (q : BitVec 3) (sz : Size) (ea : EA) : Answers .cpu s (execAddq q sz ea s) := by
  cases ea with
  | an r => exact outside_setAreg ..
  | _ => exact outside_modifyEA ..

theorem execSubq_answers (q : BitVec 3) (sz : Size) (ea : EA) : Answers .cpu s (execSubq q sz ea s) := by
  cases ea with
  | an r => exact outside_setAreg ..
  | _ => exact outside_modifyEA ..

theorem execDivu_answers (r : Fin 8) (ea : EA) : Answers .cpu s (execDivu r ea s) := by
  simp only [execDivu]
  split
  · simp [Answers]
  · split <;> simp [Answers]

theorem execDivs_answers (r : Fin 8) (ea : EA) : Answers .cpu s (execDivs r ea s) := by
  simp only [execDivs]
  split
  · simp [Answers]
  · split <;> simp [Answers]

theorem execChk_answers (r : Fin 8) (ea : EA) : Answers .cpu s (execChk r ea s) := by
  simp only [execChk]
  split
  · simp [Answers]
  · split <;> simp [Answers]

theorem execDbcc_answers (c : Cond) (r : Fin 8) : Answers .cpu s (execDbcc c r s) := by
  simp only [execDbcc]
  split
  · simp [Answers]
  · simp only [Answers]
    split <;> simp

theorem execBcc_answers (c : Cond) (disp : Byte) : Answers .cpu s (execBcc c disp s) := by
  simp only [execBcc, Answers]
  split <;> simp

theorem execTrapv_answers : Answers .cpu s (execTrapv s) := by
  simp only [execTrapv, Answers]
  split <;> simp

/-- The CPU's instructions one form at a time, and what each answers. -/
theorem exec_cpu_answers (i : Instr) (h : i.role = .cpu) : Answers .cpu s (exec i s) := by
  cases i with
  | oriToCcr | andiToCcr | eoriToCcr => exact outside_immToCcr ..
  | oriToSr | andiToSr | eoriToSr => exact answers_privileged (fun _ => outside_immToSr ..) s
  | ori | andi | subi | addi | eori => exact outside_immToEa ..
  | cmpi sz ea => simp [exec, execCmpi, Answers]
  | btstImm ea => exact (outside_btstAt ..).trans (outside_fetchBitNumber ..)
  | bchgImm ea | bclrImm ea | bsetImm ea => exact (outside_modifyEA ..).trans (outside_fetchBitNumber ..)
  | btstReg => exact outside_btstAt ..
  | bchgReg | bclrReg | bsetReg | nbcd | tas | negx | neg | notEa => exact outside_modifyEA ..
  | movep r dir sz a => exact execMovep_answers ..
  | moveaL | moveaW => exact outside_moveaAt ..
  | moveB | moveL | moveW => exact outside_moveAt ..
  | illegal => exact outside_takeIllegal ..
  | trap | lineA | lineF => exact outside_takeException ..
  | trapv => exact execTrapv_answers ..
  | chk r ea => exact execChk_answers ..
  | divu r ea => exact execDivu_answers ..
  | divs r ea => exact execDivs_answers ..
  | reset => exact answers_privileged (fun _ => rfl) s
  | stop => exact answers_privileged (fun s => by simp) s
  | rte => exact answers_privileged (fun _ => outside_returnFromException ..) s
  | moveEaSr ea => exact answers_privileged (fun s => by simp) s
  | moveAnUsp r => exact answers_privileged (fun _ => outside_setUsp ..) s
  | moveUspAn r => exact answers_privileged (fun _ => outside_setAreg ..) s
  | nop => rfl
  | rts => simp [exec, execRts, Answers]
  | rtr => simp [exec, execRtr, Answers]
  | link r => simp [exec, execLink, Answers]
  | unlk r => simp [exec, execUnlk, Answers]
  | jsr ea => simp [exec, execJsr, Answers]
  | jmp ea => simp [exec, execJmp, Answers]
  | bra disp => simp [exec, execBra, Answers]
  | bsr disp => simp [exec, execBsr, Answers]
  | bcc c disp => exact execBcc_answers ..
  | dbcc c r => exact execDbcc_answers ..
  | swap | extL | moveq | extW => exact (outside_setCcr ..).trans (outside_setDreg ..)
  | pea ea => simp [exec, execPea, Answers]
  | lea r ea => simp [exec, execLea, Answers]
  | movemRegsEa sz ea => exact execMovemRegsEa_answers ..
  | movemEaRegs sz ea => exact execMovemEaRegs_answers ..
  | tst sz ea => simp [exec, execTst, Answers]
  | clr sz ea => simp [exec, execClr, Answers]
  | moveSrEa ea | scc c ea => exact outside_writeEA ..
  | moveEaCcr ea => simp [exec, execMoveEaCcr, Answers]
  | addq q sz ea => exact execAddq_answers ..
  | subq q sz ea => exact execSubq_answers ..
  | sbcd | abcd | addx | subx => exact outside_extendedForm ..
  | orEaDn | subEaDn | andEaDn | addEaDn => exact outside_eaToDreg ..
  | orDnEa | subDnEa | andDnEa | addDnEa | eor => exact outside_dregToEa ..
  | subaW | subaL => exact outside_subaAt ..
  | addaW | addaL => exact outside_addaAt ..
  | cmpaW | cmpaL => exact outside_cmpaAt ..
  | cmpm x sz y => simp [exec, execCmpm, Answers]
  | cmp r sz ea => simp [exec, execCmp, Answers]
  | mulu r ea => simp [exec, execMulu, Answers]
  | muls r ea => simp [exec, execMuls, Answers]
  | exgDD => exact (outside_setDreg ..).trans (outside_setDreg ..)
  | exgAA => exact (outside_setAreg ..).trans (outside_setAreg ..)
  | exgDA => exact (outside_setAreg ..).trans (outside_setDreg ..)
  | asrEa | aslEa | lsrEa | lslEa | roxrEa | roxlEa | rorEa | rolEa => exact outside_shiftEa ..
  | asrDn | aslDn | lsrDn | lslDn | roxrDn | roxlDn | rorDn | rolDn => exact outside_shiftDreg ..
  | _ => cases h

/-! ### The units -/

variable (u : Coproc)

theorem execRDiv_answers (m n : Fin 32) : Answers (.risc u) s (execRDiv u m n s) := by
  simp only [execRDiv]
  split
  · exact outside_setRreg ..
  · refine (outside_setRisc u _ _ ?_ ?_).trans (outside_setRreg u s n _) <;> rfl

theorem execRAbs_answers (n : Fin 32) : Answers (.risc u) s (execRAbs u n s) := by
  simp only [execRAbs]
  split
  · exact outside_setZNC ..
  · exact (outside_setZNC ..).trans (outside_setRreg ..)

theorem execRSh_answers (m n : Fin 32) : Answers (.risc u) s (execRSh u m n s) := by
  simp only [execRSh]
  split <;> exact outside_writeZNC ..

theorem execRSha_answers (m n : Fin 32) : Answers (.risc u) s (execRSha u m n s) := by
  simp only [execRSha]
  split <;> exact outside_writeZNC ..

/-- The instructions of a delay slot one form at a time, and what each answers. The CPU's never come out of a unit's
decoder; they are refused (R206). -/
theorem execSlot_answers (i : Instr) : Answers i.role s (execSlot i s) := by
  cases i with
  | rAdd | rAddc | rAddq | rSub | rSubc | rSubq | rNeg | rShlq | rShrq | rSharq | rRor | rRorq =>
    exact outside_writeZNC ..
  | rAnd | rOr | rXor | rNot | rBset | rBclr | rMult | rImult | rMtoi | rNormi => exact outside_writeZN ..
  | gSat8 | gSat16 | gSat24 | dSat16s | dSat32s | dMirror => exact outside_writeZN ..
  | rAddqt | rSubqt | rResmac | rMove | rMoveq | rMovefa | rMovePc | gPack | gUnpack => exact outside_setRreg ..
  | rMoveta => exact outside_setAltReg ..
  | rBtst => exact outside_setZN ..
  | rImultn => exact (outside_setZNof ..).trans (outside_setAcc ..)
  | rImacn => exact outside_addAcc ..
  | rCmp | rCmpq => exact outside_setZNCof ..
  | rDiv u m n => exact execRDiv_answers ..
  | rAbs u n => exact execRAbs_answers ..
  | rSh u m n => exact execRSh_answers ..
  | rSha u m n => exact execRSha_answers ..
  | dSubqmod | dAddqmod => exact outside_modMerge ..
  | rLoadb => exact (outside_setRreg ..).trans (outside_loadByte ..)
  | rLoadw => exact (outside_setRreg ..).trans (outside_loadWord ..)
  | rLoad | rLoadR14q | rLoadR15q | rLoadR14m | rLoadR15m => exact outside_riscLoad ..
  | gLoadp => exact (outside_riscLoad ..).trans ((outside_setHidata ..).trans (outside_readLong ..))
  | rStoreb => exact outside_storeByte ..
  | rStorew => exact outside_storeWord ..
  | rStore | rStoreR14q | rStoreR15q | rStoreR14m | rStoreR15m => exact outside_writeLong ..
  | gStorep => exact (outside_writeLong ..).trans (outside_writeLong ..)
  | rMmult => exact (outside_writeZN ..).trans (outside_mmultLoop ..)
  | rNop | dReserved62 => rfl
  | _ => rfl

theorem jumpTo_answers (target : Long) : Answers (.risc u) s (jumpTo u target s) := by
  have fetched : (fetch16 (.risc u) (s.chargeFetched (.risc u))).2.outside (.risc u) = s.outside (.risc u) := by simp
  simp only [jumpTo]
  split
  next i hi =>
    have slot := execSlot_answers (fetch16 (.risc u) (s.chargeFetched (.risc u))).2 i
    rw [role_of_decode hi] at slot
    split
    next t ht =>
      rw [ht] at slot
      exact (outside_setRpc ..).trans (Eq.trans slot fetched)
    next r _ => exact nomatch r
    next r hr =>
      rw [hr] at slot
      exact slot
  next => exact (outside_setRpc ..).trans fetched

theorem execRJump_answers (m : Fin 32) (c : BitVec 5) : Answers (.risc u) s (execRJump u m c s) := by
  unfold execRJump
  split
  · exact jumpTo_answers ..
  · rfl

theorem execRJr_answers (q c : BitVec 5) : Answers (.risc u) s (execRJr u q c s) := by
  unfold execRJr
  split
  · exact jumpTo_answers ..
  · rfl

/-- What `exec` can answer. A unit's instruction runs as in a delay slot, but for the three that a slot may not hold. -/
theorem exec_answers (i : Instr) : Answers i.role s (exec i s) := by
  by_cases h : i.role = .cpu
  · rw [h]
    exact exec_cpu_answers s i h
  · cases i with
    | rJump => exact execRJump_answers ..
    | rJr => exact execRJr_answers ..
    | rMovei => exact (outside_setRreg ..).trans ((outside_fetch16_risc ..).trans (outside_fetch16_risc ..))
    -- A CPU instruction has the role that `h` denies; every other arm is the slot's own.
    | _ => first | exact absurd rfl h | exact execSlot_answers s _

end
end Sys2Proof.Machine
end

section
/-! What a turn of the scheduler's loop does: who is picked, what the line events, the end of a frame and a processor's
step leave as it was. `DisabledUnitFrozen` (O56) follows. -/
namespace Sys2Proof.Machine

/-! ### The cycles of a step -/

@[simp] theorem takeException_stepCycles (k : ExcKind) (a : Long) (s : State) :
    (takeException k a s).stepCycles = s.stepCycles + Config.costExc .cpu k := by rw [takeException_eq]; rfl

theorem le_stepCycles_traceIf (due : Bool) (s : State) : s.stepCycles ≤ (traceIf due s).stepCycles := by
  cases due <;> simp [traceIf]

theorem le_stepCycles_cpuInterruptCheck (s : State) : s.stepCycles ≤ (cpuInterruptCheck s).stepCycles := by
  unfold cpuInterruptCheck
  split
  · exact le_rfl
  · split <;> simp

@[simp] theorem riscEntry_stepCycles (u : Coproc) (k : Nat) (s : State) :
    (riscEntry u k s).stepCycles = s.stepCycles := by
  simp [riscEntry, writeLong, (memWrite_busKeeps _ _ _ _ _).stepCycles]

theorem le_stepCycles_riscInterruptCheck (u : Coproc) (s : State) :
    s.stepCycles ≤ (riscInterruptCheck u s).stepCycles := by
  unfold riscInterruptCheck
  split
  · exact le_rfl
  · split <;> simp [State.addStepCycles]

theorem le_stepCycles_addStepCycles (s : State) (c : Nat) : c ≤ (s.addStepCycles c).stepCycles :=
  Nat.le_add_left ..

/-- An instruction costs at least one cycle (R9). -/
theorem one_le_stepCycles_chargeFetched (p : Role) (s : State) : 1 ≤ (s.chargeFetched p).stepCycles := by
  simp only [State.chargeFetched, Config.cost]; omega

theorem one_le_stepCycles_cpuTail (traced : Bool) (s : State) : 1 ≤ (cpuTail traced s).stepCycles :=
  (one_le_stepCycles_chargeFetched .cpu s).trans
    ((le_stepCycles_traceIf traced _).trans (le_stepCycles_cpuInterruptCheck _))

theorem one_le_stepCycles_riscTail (u : Coproc) (s : State) : 1 ≤ (riscTail u s).stepCycles :=
  (one_le_stepCycles_chargeFetched (.risc u) s).trans (le_stepCycles_riscInterruptCheck u _)

theorem Params.Valid.one_le_idle {m : Params} (h : m.Valid) (p : Role) : 1 ≤ m.idle p := by
  obtain ⟨-, -, -, -, -, hc, hg, hd⟩ := h
  rcases p with _ | ⟨_ | _⟩ <;> assumption

theorem Params.Valid.one_le_div {m : Params} (h : m.Valid) (p : Role) : 1 ≤ m.div p := by
  obtain ⟨-, -, hc, hg, hd, -, -, -⟩ := h
  rcases p with _ | ⟨_ | _⟩ <;> assumption

/-! ### The step of a processor -/

/-- An answer of a step of `p` at `s`: a state that ends the step after all that lies outside the reach of `p` was
kept, with a cycle at least to charge when the parameters meet R9, or the refusal of R493. -/
def Ends (p : Role) (s : State) : Result → Prop
  | .next t => ∃ e, t = endStep p e ∧ e.outside p = s.outside p ∧ (s.params.Valid → 1 ≤ e.stepCycles)
  | .fault _ => False
  | .refused r => r = .jumpOrMoveiInSlot

theorem finish_ends {p : Role} {s w : State} {k : State → State} {r : Result} (hr : Answers p w r)
    (hw : w.outside p = s.outside p) (hk : ∀ t, (k t).outside p = t.outside p) (hc : ∀ t, 1 ≤ (k t).stepCycles) :
    Ends p s (finish p k r) := by
  cases r with
  | next t => exact ⟨k t, rfl, (hk t).trans (Eq.trans hr hw), fun _ => hc t⟩
  | fault r => exact nomatch r
  | refused r => exact hr

theorem cpuInstruction_ends (s : State) : Ends .cpu s (cpuInstruction s) := by
  have hw : (fetch16 .cpu s).2.outside .cpu = s.outside .cpu := outside_fetch16_cpu ..
  have hk : ∀ b t, (cpuTail b t).outside .cpu = t.outside .cpu := fun b t => by simp [cpuTail]
  simp only [cpuInstruction]
  split
  · exact finish_ends (outside_takeIllegal ..) hw (hk _) (one_le_stepCycles_cpuTail _)
  next i hi =>
    exact finish_ends (role_of_decode hi ▸ exec_answers _ i) hw (hk _) (one_le_stepCycles_cpuTail _)

theorem riscInstruction_ends (u : Coproc) (s : State) : Ends (.risc u) s (riscInstruction u s) := by
  have hw : (fetch16 (.risc u) s).2.outside (.risc u) = s.outside (.risc u) := outside_fetch16_risc ..
  have hk : ∀ t, (riscTail u t).outside (.risc u) = t.outside (.risc u) := fun t => by simp [riscTail]
  simp only [riscInstruction]
  split
  · exact finish_ends rfl hw hk (one_le_stepCycles_riscTail u)
  next i hi => exact finish_ends (role_of_decode hi ▸ exec_answers _ i) hw hk (one_le_stepCycles_riscTail u)

theorem Ends.of_beginStep {p : Role} {s : State} {r : Result} (h : Ends p (beginStep s) r) : Ends p s r := by
  cases r with
  | next t =>
    obtain ⟨e, he, ho, hc⟩ := h
    exact ⟨e, he, ho.trans (outside_beginStep p s), hc⟩
  | fault r => exact nomatch r
  | refused r => exact h

theorem processorStep_ends {p : Role} {s : State} (h : eligible s p = true) : Ends p s (processorStep p s) := by
  apply Ends.of_beginStep
  cases p with
  | cpu =>
    simp only [processorStep, cpuStep]
    split
    · exact cpuInstruction_ends _
    · exact ⟨_, rfl, by simp, fun hv => (hv.one_le_idle .cpu).trans
        ((le_stepCycles_addStepCycles _ _).trans (le_stepCycles_cpuInterruptCheck _))⟩
    next hoff => exact absurd h (by simp [eligible, show s.cpu.run = .off from hoff])
  | risc u =>
    simp only [processorStep, riscStep]
    split
    · exact riscInstruction_ends u _
    · exact ⟨_, rfl, by simp, fun hv => (hv.one_le_idle (.risc u)).trans
        ((le_stepCycles_addStepCycles _ _).trans (le_stepCycles_riscInterruptCheck u _))⟩

/-! ### The end of a step -/

section
variable (p : Role) (e : State)

@[simp] theorem endStep_params : (endStep p e).params = e.params := by rcases p with _ | ⟨_ | _⟩ <;> rfl
@[simp] theorem endStep_powered : (endStep p e).powered = e.powered := by rcases p with _ | ⟨_ | _⟩ <;> rfl
@[simp] theorem endStep_frameClock : (endStep p e).sched.frameClock = e.sched.frameClock := by
  rcases p with _ | ⟨_ | _⟩ <;> rfl
@[simp] theorem endStep_en (u : Coproc) : ((endStep p e).risc u).en = (e.risc u).en := by
  rcases p with _ | ⟨_ | _⟩ <;> cases u <;> rfl
@[simp] theorem endStep_unitRegs (u : Coproc) : (endStep p e).unitRegs u = e.unitRegs u := by
  rcases p with _ | ⟨_ | _⟩ <;> cases u <;> rfl

theorem endStep_cpuCycles : (endStep p e).cpu.cycles = e.cpu.cycles + if p = .cpu then e.stepCycles else 0 := by
  rcases p with _ | ⟨_ | _⟩ <;> rfl

theorem endStep_cycles (u : Coproc) :
    ((endStep p e).risc u).cycles = (e.risc u).cycles + if p = .risc u then e.stepCycles else 0 := by
  rcases p with _ | ⟨_ | _⟩ <;> cases u <;> rfl

theorem endStep_time (q : Role) :
    (endStep p e).time q = e.time q + if p = q then e.stepCycles * e.params.div p else 0 := by
  rcases p with _ | ⟨_ | _⟩ <;> rcases q with _ | ⟨_ | _⟩ <;> rfl

end

/-! ### What a turn never takes back -/

/-- What every turn keeps from `s` to `t`: the parameters, the life cycle and the power bits are the same, no cycle
counter falls, and a disabled unit's registers and cycle counter are as they were. -/
structure Advances (s t : State) : Prop where
  params : t.params = s.params
  powered : t.powered = s.powered
  en : ∀ u, (t.risc u).en = (s.risc u).en
  cpuCycles : s.cpu.cycles ≤ t.cpu.cycles
  cycles : ∀ u, (s.risc u).cycles ≤ (t.risc u).cycles
  frozen : ∀ u, (s.risc u).en = false → (t.risc u).cycles = (s.risc u).cycles ∧ t.unitRegs u = s.unitRegs u

theorem Advances.trans {s t w : State} (h : Advances s t) (g : Advances t w) : Advances s w where
  params := g.params.trans h.params
  powered := g.powered.trans h.powered
  en u := (g.en u).trans (h.en u)
  cpuCycles := h.cpuCycles.trans g.cpuCycles
  cycles u := (h.cycles u).trans (g.cycles u)
  frozen u hu := by
    obtain ⟨hc, hr⟩ := h.frozen u hu
    obtain ⟨gc, gr⟩ := g.frozen u ((h.en u).trans hu)
    exact ⟨gc.trans hc, gr.trans hr⟩

/-- The fields of `State.outside` one by one. -/
theorem outside_eq_iff {p : Role} {s t : State} : t.outside p = s.outside p ↔
    t.params = s.params ∧ t.powered = s.powered ∧ t.sched = s.sched ∧ t.cpu.cycles = s.cpu.cycles ∧
      (∀ u, (t.risc u).en = (s.risc u).en) ∧ (∀ u, (t.risc u).cycles = (s.risc u).cycles) ∧
      ∀ u, p ≠ .risc u → t.unitRegs u = s.unitRegs u := by
  simp only [State.outside, Outside.mk.injEq, funext_iff]
  refine and_congr_right fun _ => and_congr_right fun _ => and_congr_right fun _ => and_congr_right fun _ =>
    and_congr_right fun _ => and_congr_right fun _ => forall_congr' fun u => ?_
  split <;> simp_all

/-- What keeps all that lies outside an instruction of the CPU but for the scheduler advances the machine. -/
theorem advances_of_outside {s t : State} (h : t.outside .cpu = { s with sched := t.sched }.outside .cpu) :
    Advances s t := by
  obtain ⟨hp, hw, -, hc, he, hy, hr⟩ := outside_eq_iff.mp h
  exact ⟨hp, hw, fun u => he u, hc.ge, fun u => (hy u).ge, fun u _ => ⟨hy u, hr u (by simp)⟩⟩

theorem advances_endStep {p : Role} {s e : State} (h : e.outside p = s.outside p) (hp : eligible s p = true) :
    Advances s (endStep p e) := by
  obtain ⟨hm, hw, -, hc, he, hy, hr⟩ := outside_eq_iff.mp h
  refine ⟨by simp [hm], by simp [hw], by simp [he], ?_, fun u => ?_, fun u hu => ?_⟩
  · rw [endStep_cpuCycles, hc]; omega
  · rw [endStep_cycles, hy]; omega
  · have hne : p ≠ .risc u := by
      rintro rfl
      exact absurd hp (by simp [eligible, hu])
    rw [endStep_cycles, if_neg hne, endStep_unitRegs]
    exact ⟨hy u, hr u hne⟩

/-! ### Line and frame events -/

/-- `s` with another count of line events. -/
def State.atLine (s : State) (n : Nat) : State := { s with sched := { s.sched with line := n } }

theorem ReadKeeps.atLine {s t : State} (h : ReadKeeps s t) (n : Nat) : ReadKeeps (s.atLine n) (t.atLine n) :=
  ⟨h.cpu, congrArg (fun c : Sched => { c with line := n }) h.sched, h.params, h.fetched, h.stepCycles, h.risc, h.hidata,
    h.gpuAcc, h.modulo, h.dspAcc, h.vi⟩

theorem lineEvent_readKeeps (k : Nat) (s : State) : ReadKeeps s (lineEvent k s) := by
  unfold lineEvent
  split
  · exact (setLine_readKeeps ..).trans (extCall_readKeeps ..)
  · exact extCall_readKeeps ..

@[simp] theorem lineEvent_powered (k : Nat) (s : State) : (lineEvent k s).powered = s.powered := by
  unfold lineEvent
  split <;> simp

/-- The due line events change no more than a read does, and the count of line events (R655, R656). -/
theorem fireDue_readKeeps (left t : Nat) (s : State) :
    ReadKeeps (s.atLine (fireDue left t s).sched.line) (fireDue left t s) := by
  induction left generalizing s with
  | zero => exact .refl s
  | succ left ih =>
    simp only [fireDue]
    split
    · exact ((lineEvent_readKeeps _ (s.atLine (s.sched.line + 1))).atLine _).trans (ih _)
    · exact .refl s

@[simp] theorem fireDue_powered (left t : Nat) (s : State) : (fireDue left t s).powered = s.powered := by
  induction left generalizing s with
  | zero => rfl
  | succ left ih =>
    simp only [fireDue]
    split
    · exact (ih _).trans (lineEvent_powered ..)
    · rfl

section
variable (p : Role) (s : State)

theorem afterLines_outside (q : Role) :
    (afterLines p s).outside q = (s.atLine (afterLines p s).sched.line).outside q :=
  outside_of_busKeeps (fireDue_readKeeps ..).busKeeps (fireDue_powered ..) q

theorem afterLines_sched : (afterLines p s).sched = { s.sched with line := (afterLines p s).sched.line } :=
  (fireDue_readKeeps ..).sched

@[simp] theorem afterLines_cpu : (afterLines p s).cpu = s.cpu := (fireDue_readKeeps ..).cpu
@[simp] theorem afterLines_params : (afterLines p s).params = s.params := (fireDue_readKeeps ..).params
@[simp] theorem afterLines_risc (u : Coproc) : (afterLines p s).risc u = s.risc u := (fireDue_readKeeps ..).risc u
@[simp] theorem afterLines_frameClock : (afterLines p s).sched.frameClock = s.sched.frameClock := by
  rw [afterLines_sched]
@[simp] theorem afterLines_stopRequested : (afterLines p s).sched.stopRequested = s.sched.stopRequested := by
  rw [afterLines_sched]
@[simp] theorem afterLines_time (q : Role) : (afterLines p s).time q = s.time q := by
  rcases q with _ | ⟨_ | _⟩ <;> simp only [State.time] <;> rw [afterLines_sched]
@[simp] theorem afterLines_eligible (q : Role) : eligible (afterLines p s) q = eligible s q := by
  cases q <;> simp [eligible]

theorem advances_afterLines : Advances s (afterLines p s) := by
  refine advances_of_outside ((afterLines_outside p s .cpu).trans ?_)
  rw [afterLines_sched]
  rfl

end

theorem endFrame_outside (p : Role) (s : State) :
    (endFrame s).outside p = { s with sched := (endFrame s).sched }.outside p := by
  have h := outside_of_busKeeps (extCall_readKeeps (.tick .frame) s).busKeeps (extCall_powered _ s) p
  obtain ⟨hm, hw, -, hc, he, hy, hr⟩ := outside_eq_iff.mp h
  exact outside_eq_iff.mpr ⟨hm, hw, rfl, hc, he, hy, hr⟩

theorem endFrame_frameClock (s : State) :
    (endFrame s).sched.frameClock = s.sched.frameClock + s.params.frameBudget := by
  have h := extCall_readKeeps (.tick .frame) s
  simp only [endFrame, h.sched, h.params]

/-! ### Who is picked (R655) -/

theorem eligible_iff {s : State} {p : Role} : eligible s p = true ↔ IsEligible s p := by
  cases p <;> simp [eligible, IsEligible]

theorem mem_roles (p : Role) : p ∈ roles := by rcases p with _ | ⟨_ | _⟩ <;> simp [roles]

theorem leastTime_le {s : State} {p : Role} {l : List Role} (hp : eligible s p = true) (hl : p ∈ l) :
    ∃ m, leastTime s l = some m ∧ m ≤ s.time p := by
  induction l with
  | nil => cases hl
  | cons q rest ih =>
    rcases List.mem_cons.mp hl with rfl | hr
    · cases hm : leastTime s rest <;> simp [leastTime, hp, hm]
    · obtain ⟨m, hm, hle⟩ := ih hr
      cases hq : eligible s q <;> simp [leastTime, hq, hm, hle]

theorem leastTime_attained {s : State} {m : Nat} {l : List Role} (h : leastTime s l = some m) :
    ∃ p ∈ l, eligible s p = true ∧ s.time p = m := by
  induction l generalizing m with
  | nil => cases h
  | cons q rest ih =>
    simp only [leastTime] at h
    split at h
    next t hq hr =>
      obtain ⟨p, hp, he, ht⟩ := ih hr
      rcases Nat.le_total (s.time q) t with hle | hle
      · exact ⟨q, by simp, hq, by simpa [hle] using h⟩
      · exact ⟨p, by simp [hp], he, by simpa [hle, ht] using h⟩
    next hq _ => exact ⟨q, by simp, hq, Option.some.inj h⟩
    next =>
      obtain ⟨p, hp, he, ht⟩ := ih h
      exact ⟨p, by simp [hp], he, ht⟩

theorem now_le {s : State} {p : Role} (hp : IsEligible s p) : now s ≤ s.time p := by
  obtain ⟨m, hm, hle⟩ := leastTime_le (eligible_iff.mpr hp) (mem_roles p)
  simpa [now, hm] using hle

/-- The time of an eligible processor is `now`. -/
theorem exists_time_eq_now {s : State} {p : Role} (hp : IsEligible s p) :
    ∃ q, IsEligible s q ∧ s.time q = now s := by
  obtain ⟨m, hm, -⟩ := leastTime_le (eligible_iff.mpr hp) (mem_roles p)
  obtain ⟨q, -, hq, ht⟩ := leastTime_attained hm
  exact ⟨q, eligible_iff.mp hq, by simp [now, hm, ht]⟩

theorem Picked.time_eq_now {p : Role} {s : State} (h : Picked p s) : s.time p = now s := by
  obtain ⟨q, hq, ht⟩ := exists_time_eq_now h.1
  have := now_le h.1
  have := h.2 q hq
  omega

theorem Picked.unique {p q : Role} {s : State} (hp : Picked p s) (hq : Picked q s) : p = q := by
  have h1 := hp.2 q hq.1
  have h2 := hq.2 p hp.1
  have : tieRank p = tieRank q := by omega
  revert this
  rcases p with _ | ⟨_ | _⟩ <;> rcases q with _ | ⟨_ | _⟩ <;> simp [tieRank]

/-- What `nextRole` answers is the scheduler's choice (R655). -/
theorem picked_of_nextRole {p : Role} {s : State} (h : nextRole s = some p) : Picked p s := by
  obtain ⟨hp, before, after, hl, hb⟩ := List.find?_eq_some_iff_append.mp h
  simp only [Bool.and_eq_true, beq_iff_eq, eligible_iff] at hp
  refine ⟨hp.1, fun q hq => ?_⟩
  have hle := now_le hq
  rw [hp.2]
  rcases Nat.lt_or_ge (now s) (s.time q) with hlt | hge
  · exact .inl hlt
  · have heq : s.time q = now s := Nat.le_antisymm hge hle
    have hq' : q ∉ before := fun hm => by simpa [eligible_iff.mpr hq, heq] using hb q hm
    have hm : q ∈ p :: after := (List.mem_append.mp (hl ▸ mem_roles q)).resolve_left hq'
    have sorted : roles.Pairwise fun a b => tieRank a ≤ tieRank b := by simp [roles, tieRank]
    rw [hl] at sorted
    refine .inr ⟨heq.symm, ?_⟩
    rcases List.mem_cons.mp hm with rfl | hafter
    · exact le_rfl
    · exact List.rel_of_pairwise_cons (List.pairwise_append.mp sorted).2.1 hafter

theorem exists_picked {s : State} (h : s.cpu.run ≠ .off) : ∃ p, Picked p s := by
  obtain ⟨q, hq, ht⟩ := exists_time_eq_now (s := s) (p := .cpu) h
  have hs : (nextRole s).isSome :=
    List.find?_isSome.mpr ⟨q, mem_roles q, by simp [eligible_iff.mpr hq, ht]⟩
  obtain ⟨p, hp⟩ := Option.isSome_iff_exists.mp hs
  exact ⟨p, picked_of_nextRole hp⟩

theorem Picked.nextRole_eq {p : Role} {s : State} (h : Picked p s) : nextRole s = some p := by
  have hs : (nextRole s).isSome :=
    List.find?_isSome.mpr ⟨p, mem_roles p, by simp [eligible_iff.mpr h.1, h.time_eq_now]⟩
  obtain ⟨q, hq⟩ := Option.isSome_iff_exists.mp hs
  rw [hq, (picked_of_nextRole hq).unique h]

theorem Picked.afterLines {p : Role} {s : State} (h : Picked p s) : Picked p (afterLines p s) := by
  have he : ∀ q, IsEligible (Machine.afterLines p s) q ↔ IsEligible s q := fun q => by
    rw [← eligible_iff, ← eligible_iff, afterLines_eligible]
  refine ⟨(he p).mpr h.1, fun q hq => ?_⟩
  simpa using h.2 q ((he q).mp hq)

/-! ### A turn -/

theorem turn_off {s : State} (h : s.cpu.run = .off) (limit : Option Nat) :
    turn limit s = (.ran, .refused .machineOff) := by simp [turn, h]

/-- A turn while the machine is on, `p` being picked: the line events that are due, and then the end of the frame, a
pause, or the step of `p` (R655, R706, R707). -/
theorem turn_eq {p : Role} {s : State} (hon : s.cpu.run ≠ .off) (hp : Picked p s) (limit : Option Nat) :
    turn limit s =
      if s.params.frameBudget ≤ s.time p then (.frameReady, .next (endFrame (afterLines p s)))
      else if s.sched.stopRequested then
        (.paused, .next { afterLines p s with
          sched := { (afterLines p s).sched with stopRequested := false } })
      else if limitReached limit (s.time p) then (.paused, .next (afterLines p s))
      else (.ran, processorStep p (afterLines p s)) := by
  have hb : fireDue (s.params.lines - s.sched.line) (now s) s = afterLines p s := by
    rw [← hp.time_eq_now]
    rfl
  simp only [turn, if_neg hon, hb, decideTurn, afterLines_params, afterLines_stopRequested, hp.afterLines.nextRole_eq,
    hp.time_eq_now]

/-- What one step of the machine can be: the end of a frame, a pause, or the step of the processor that is picked, after
the line events that are due. -/
theorem step_cases {s t : State} (h : step s = .next t) : ∃ p, Picked p s ∧
    (t = endFrame (afterLines p s) ∨
      t = { afterLines p s with sched := { (afterLines p s).sched with stopRequested := false } } ∨
      ∃ e, t = endStep p e ∧ e.outside p = (afterLines p s).outside p) := by
  have hon : s.cpu.run ≠ .off := fun hoff => by simp [step, turn_off hoff] at h
  obtain ⟨p, hp⟩ := exists_picked hon
  refine ⟨p, hp, ?_⟩
  rw [step, turn_eq hon hp] at h
  split at h
  · exact .inl (Host.Outcome.next.inj h).symm
  · split at h
    · exact .inr (.inl (Host.Outcome.next.inj h).symm)
    · have ends := processorStep_ends (eligible_iff.mpr hp.afterLines.1)
      simp only [limitReached, Bool.false_eq_true, if_false] at h
      rw [h] at ends
      obtain ⟨e, he, ho, -⟩ := ends
      exact .inr (.inr ⟨e, he, ho⟩)

theorem step_advances {s t : State} (h : step s = .next t) : Advances s t := by
  obtain ⟨p, hp, rfl | rfl | ⟨e, rfl, he⟩⟩ := step_cases h
  · exact (advances_afterLines p s).trans (advances_of_outside (endFrame_outside .cpu _))
  · exact (advances_afterLines p s).trans (advances_of_outside rfl)
  · exact (advances_afterLines p s).trans (advances_endStep he (eligible_iff.mpr hp.afterLines.1))

/-- The frame clock moves by whole frames (R655). -/
theorem step_frameClock {s t : State} (h : step s = .next t) : t.sched.frameClock = s.sched.frameClock ∨
    t.sched.frameClock = s.sched.frameClock + s.params.frameBudget := by
  obtain ⟨p, -, rfl | rfl | ⟨e, rfl, he⟩⟩ := step_cases h
  · exact .inr (by simp [endFrame_frameClock])
  · exact .inl (by simp)
  · have hs : e.sched = (afterLines p s).sched := congrArg Outside.sched he
    exact .inl (by simp [hs])

/-- Settles O56: each turn is one that `step_cases` lists, and each of those advances the machine. -/
theorem disabledUnitFrozen : Obligations.DisabledUnitFrozen := by
  refine ⟨fun u s t hu h => ?_, fun s t h => ?_⟩
  · have ha := step_advances h
    obtain ⟨hc, hr⟩ := ha.frozen u hu
    refine ⟨(ha.en u).trans hu, hc, congrArg UnitRegs.bank0 hr, congrArg UnitRegs.bank1 hr,
      congrArg UnitRegs.remain hr, ?_, ?_⟩
    · rintro rfl
      exact BitVec.eq_of_toNat_eq (congrArg UnitRegs.acc hr)
    · rintro rfl
      exact BitVec.eq_of_toNat_eq (congrArg UnitRegs.acc hr)
  · obtain ⟨hm, hw, he, hc, hy, -⟩ := step_advances h
    exact ⟨hm, hw, he, step_frameClock h, hc, hy⟩

end Sys2Proof.Machine
end

section
/-! How a run of the scheduler's loop ends: the time left in the frame falls with every step. `RunFrameEnds` (O57)
follows. -/
namespace Sys2Proof.Machine

/-! ### A step moves the time of the processor that is picked -/

/-- The time that the three processors have left in the frame: what bounds the turns of a run (log 15). -/
def State.timeLeft (s : State) : Nat :=
  (s.params.frameBudget - s.time .cpu) + (s.params.frameBudget - s.time (.risc .gpu)) +
    (s.params.frameBudget - s.time (.risc .dsp))

theorem timeLeft_lt_frameFuel (s : State) : s.timeLeft < frameFuel s := by
  simp only [State.timeLeft, frameFuel]; omega

/-- `w` is what a step of `p` at `s` left: no time fell, `p` moved, and nobody became eligible. -/
structure Stepped (p : Role) (s w : State) : Prop where
  params : w.params = s.params
  time_le : ∀ q, s.time q ≤ w.time q
  time_lt : s.time p < w.time p
  en : ∀ u, (w.risc u).en = (s.risc u).en

theorem stepped_endStep {p : Role} {s e : State} (hv : s.params.Valid) (h : e.outside p = s.outside p)
    (hc : 1 ≤ e.stepCycles) : Stepped p s (endStep p e) := by
  obtain ⟨hm, -, hs, -, he, -, -⟩ := outside_eq_iff.mp h
  have ht : ∀ q, e.time q = s.time q := fun q => by
    rcases q with _ | ⟨_ | _⟩ <;> simp only [State.time, hs]
  refine ⟨by simp [hm], fun q => ?_, ?_, by simp [he]⟩
  · rw [endStep_time, ht]
    exact Nat.le_add_right ..
  · rw [endStep_time, ht, if_pos rfl, hm]
    exact Nat.lt_add_of_pos_right (Nat.mul_pos hc (hv.one_le_div p))

theorem Stepped.of_afterLines {p : Role} {s w : State} (h : Stepped p (afterLines p s) w) : Stepped p s w where
  params := by simpa using h.params
  time_le q := by simpa using h.time_le q
  time_lt := by simpa using h.time_lt
  en u := by simpa using h.en u

theorem Stepped.timeLeft_lt {p : Role} {s w : State} (h : Stepped p s w) (hp : s.time p < s.params.frameBudget) :
    w.timeLeft < s.timeLeft := by
  have hc := h.time_le .cpu
  have hg := h.time_le (.risc .gpu)
  have hd := h.time_le (.risc .dsp)
  have hlt := h.time_lt
  simp only [State.timeLeft, h.params]
  rcases p with _ | ⟨_ | _⟩ <;> omega

/-- After a step the time of the one who is picked next is no less. -/
theorem Stepped.picked_time_le {p q : Role} {s w : State} (h : Stepped p s w) (hon : s.cpu.run ≠ .off)
    (hp : Picked p s) (hq : Picked q w) : s.time p ≤ w.time q := by
  have he : IsEligible s q := by
    cases q with
    | cpu => exact hon
    | risc u => exact (h.en u).symm.trans hq.1
  rw [hp.time_eq_now]
  exact (now_le he).trans (h.time_le q)

/-! ### Turns that run on, and turns that end a run -/

theorem turn_ran {limit : Option Nat} {s w : State} (hv : s.params.Valid) (h : turn limit s = (.ran, .next w)) :
    ∃ p, Picked p s ∧ s.time p < s.params.frameBudget ∧ Stepped p s w := by
  have hon : s.cpu.run ≠ .off := fun hoff => by simp [turn_off hoff] at h
  obtain ⟨p, hp⟩ := exists_picked hon
  rw [turn_eq hon hp] at h
  split at h
  · cases h
  next hlt =>
    split at h
    · cases h
    · split at h
      · cases h
      · have ends := processorStep_ends (eligible_iff.mpr hp.afterLines.1)
        rw [(Prod.mk.inj h).2] at ends
        obtain ⟨e, rfl, ho, hc⟩ := ends
        have hb : (afterLines p s).params.Valid := by simpa using hv
        exact ⟨p, hp, Nat.lt_of_not_le hlt, (stepped_endStep hb ho (hc hb)).of_afterLines⟩

theorem runLoop_of_ran {limit : Option Nat} {s w : State} (h : turn limit s = (.ran, .next w)) (fuel : Nat) :
    runLoop limit (fuel + 1) s = runLoop limit fuel w := by simp [runLoop, h]

theorem runLoop_of_stop {limit : Option Nat} {s : State} (h : ∀ w, turn limit s ≠ (.ran, .next w)) (fuel : Nat) :
    runLoop limit (fuel + 1) s = turn limit s := by
  rw [runLoop]
  split
  next w hw => exact absurd hw (h w)
  next => rfl

/-- With more turns than time left the number of turns does not matter. -/
theorem runLoop_fuel {limit : Option Nat} {f g : Nat} {s : State} (hv : s.params.Valid) (hf : s.timeLeft < f)
    (hg : s.timeLeft < g) : runLoop limit f s = runLoop limit g s := by
  induction f generalizing g s with
  | zero => omega
  | succ f ih =>
    obtain ⟨g, rfl⟩ : ∃ k, g = k + 1 := ⟨g - 1, by omega⟩
    by_cases h : ∃ w, turn limit s = (.ran, .next w)
    · obtain ⟨w, hw⟩ := h
      obtain ⟨p, -, hp, hs⟩ := turn_ran hv hw
      have := hs.timeLeft_lt hp
      rw [runLoop_of_ran hw, runLoop_of_ran hw]
      exact ih (hs.params ▸ hv) (by omega) (by omega)
    · have hstop : ∀ w, turn limit s ≠ (.ran, .next w) := fun w hw => h ⟨w, hw⟩
      rw [runLoop_of_stop hstop, runLoop_of_stop hstop]

/-- With more turns than time left a run does not stop short. -/
theorem runLoop_ne_ran {limit : Option Nat} {f : Nat} {s : State} (hv : s.params.Valid) (hf : s.timeLeft < f)
    (t : State) : runLoop limit f s ≠ (.ran, .next t) := by
  induction f generalizing s with
  | zero => omega
  | succ f ih =>
    by_cases h : ∃ w, turn limit s = (.ran, .next w)
    · obtain ⟨w, hw⟩ := h
      obtain ⟨p, -, hp, hs⟩ := turn_ran hv hw
      have := hs.timeLeft_lt hp
      rw [runLoop_of_ran hw]
      exact ih (hs.params ▸ hv) (by omega)
    · have hstop : ∀ w, turn limit s ≠ (.ran, .next w) := fun w hw => h ⟨w, hw⟩
      rw [runLoop_of_stop hstop]
      exact hstop t

theorem runAnswer_ne_noProgress {x : Signal × Result} {t : State} (h : x ≠ (.ran, .next t)) :
    runAnswer x ≠ .noProgress t := by
  obtain ⟨g, r⟩ := x
  intro e
  rcases r with w | r | r
  · cases g <;> simp_all [runAnswer]
  · exact nomatch r
  · cases r <;> simp [runAnswer] at e

/-! ### The answers of the run calls -/

theorem runFrame_of_stop {s : State} (h : ∀ w, turn none s ≠ (.ran, .next w)) :
    runFrame s = runAnswer (turn none s) := congrArg runAnswer (runLoop_of_stop h _)

theorem runCycles_of_stop {n : Nat} {s : State} (h : ∀ w, turn (some (now s + n)) s ≠ (.ran, .next w)) :
    runCycles n s = runAnswer (turn (some (now s + n)) s) := congrArg runAnswer (runLoop_of_stop h _)

theorem runFrame_of_ran {s w : State} (hv : s.params.Valid) (h : turn none s = (.ran, .next w)) :
    runFrame s = runFrame w := by
  obtain ⟨p, -, hp, hs⟩ := turn_ran hv h
  have hlt : w.timeLeft < 3 * s.params.frameBudget :=
    Nat.lt_of_lt_of_le (hs.timeLeft_lt hp) (Nat.le_of_lt_succ (timeLeft_lt_frameFuel s))
  exact congrArg runAnswer
    ((runLoop_of_ran h _).trans (runLoop_fuel (hs.params ▸ hv) hlt (timeLeft_lt_frameFuel w)))

/-- Limits that a turn cannot tell apart. -/
theorem turn_congr {l m : Option Nat} {s : State} (h : limitReached l (now s) = limitReached m (now s)) :
    turn l s = turn m s := by
  simp only [turn, decideTurn, h]

theorem turn_ne_ran_of_limit {l : Option Nat} {s : State} (h : limitReached l (now s) = true) (w : State) :
    turn l s ≠ (.ran, .next w) := by
  by_cases hoff : s.cpu.run = .off
  · simp [turn_off hoff]
  · obtain ⟨p, hp⟩ := exists_picked hoff
    rw [turn_eq hoff hp, hp.time_eq_now, h]
    split
    · simp
    · split <;> simp

/-- Two limits that are both reached, or equal, end a run in the same way. -/
theorem runLoop_limit {l m fuel : Nat} {s : State} (h : l = m ∨ l ≤ now s ∧ m ≤ now s) :
    runLoop (some l) fuel s = runLoop (some m) fuel s := by
  rcases h with rfl | ⟨hl, hm⟩
  · rfl
  · have hl : limitReached (some l) (now s) = true := by simpa [limitReached] using hl
    have hm : limitReached (some m) (now s) = true := by simpa [limitReached] using hm
    cases fuel with
    | zero => rfl
    | succ fuel =>
      rw [runLoop_of_stop (turn_ne_ran_of_limit hl), runLoop_of_stop (turn_ne_ran_of_limit hm),
        turn_congr (hl.trans hm.symm)]

theorem runCycles_of_ran {n : Nat} {p q : Role} {s w : State} (hv : s.params.Valid) (hon : s.cpu.run ≠ .off)
    (hp : Picked p s) (hq : Picked q w) (h : turn (some (now s + n)) s = (.ran, .next w)) :
    runCycles n s = runCycles (n - (w.time q - s.time p)) w := by
  obtain ⟨p', hp', hlt, hs⟩ := turn_ran hv h
  obtain rfl := hp'.unique hp
  have hfuel : w.timeLeft < 3 * s.params.frameBudget :=
    Nat.lt_of_lt_of_le (hs.timeLeft_lt hlt) (Nat.le_of_lt_succ (timeLeft_lt_frameFuel s))
  have hle := hs.picked_time_le hon hp hq
  have hlimit : now s + n = now w + (n - (w.time q - s.time p')) ∨
      now s + n ≤ now w ∧ now w + (n - (w.time q - s.time p')) ≤ now w := by
    rw [← hp.time_eq_now, ← hq.time_eq_now]
    omega
  refine congrArg runAnswer ?_
  calc runLoop (some (now s + n)) (frameFuel s) s
      = runLoop (some (now s + n)) (3 * s.params.frameBudget) w := runLoop_of_ran h _
    _ = runLoop (some (now s + n)) (frameFuel w) w :=
        runLoop_fuel (hs.params ▸ hv) hfuel (timeLeft_lt_frameFuel w)
    _ = _ := runLoop_limit hlimit

/-- The turn in which a processor steps: no limit is reached, and the step is the processor's. -/
theorem StepsNext.turn_eq {p : Role} {s : State} (h : StepsNext p s) {limit : Option Nat}
    (hl : limitReached limit (s.time p) = false) : turn limit s = (.ran, step s) := by
  obtain ⟨hon, hp, hb, hstop⟩ := h
  have key : ∀ l, limitReached l (s.time p) = false → turn l s = (.ran, processorStep p (afterLines p s)) :=
    fun l hl => by
      rw [Machine.turn_eq hon hp, if_neg (Nat.not_le.mpr hb), hstop, hl]
      rfl
  rw [key limit hl, step, key none rfl]

theorem StepsNext.turn_limit_succ {p : Role} {s : State} (h : StepsNext p s) (n : Nat) :
    turn (some (now s + (n + 1))) s = (.ran, step s) :=
  h.turn_eq (by simp only [limitReached, h.2.1.time_eq_now, decide_eq_false_iff_not]; omega)

theorem StepsNext.refusal {p : Role} {s : State} {r : Refusal} (h : StepsNext p s) (hr : step s = .refused r) :
    r = .jumpOrMoveiInSlot := by
  obtain ⟨hon, hp, hb, hstop⟩ := h
  have ends := processorStep_ends (eligible_iff.mpr hp.afterLines.1)
  rw [step, Machine.turn_eq hon hp, if_neg (Nat.not_le.mpr hb), hstop] at hr
  rw [show processorStep p (Machine.afterLines p s) = .refused r from hr] at ends
  exact ends

/-- A turn that ends a run does so for both calls, whatever the limit. -/
theorem runs_of_stop {s w : State} {g : Signal} (hg : g ≠ .ran) (h : ∀ l, turn l s = (g, .next w)) (n : Nat) :
    step s = .next w ∧ runFrame s = runAnswer (g, .next w) ∧ runCycles n s = runAnswer (g, .next w) := by
  have hne : ∀ l v, turn l s ≠ (.ran, .next v) := fun l v => by simp [h l, hg]
  refine ⟨congrArg Prod.snd (h none), ?_, ?_⟩
  · rw [runFrame_of_stop (hne _), h]
  · rw [runCycles_of_stop (hne _), h]

/-- Settles O57: a run is its first turn when that turn ends it, and the run from the state after one step when it does
not; every step takes from `State.timeLeft`, which bounds the turns (log 15). -/
theorem runFrameEnds : Obligations.RunFrameEnds := by
  refine ⟨fun n s hoff => ?_, fun n p s hon hp => ⟨fun hb => ?_, fun hb hstop => ?_⟩,
    fun n p s hv h => ⟨fun r hr => ?_, fun w q hw hq => ?_, ?_⟩, fun n s t hv => ?_⟩
  · rw [runFrame_of_stop (by simp [turn_off hoff]), runCycles_of_stop (by simp [turn_off hoff])]
    simp [turn_off hoff, runAnswer]
  · exact ⟨_, runs_of_stop (g := .frameReady) (by simp) (fun l => by rw [turn_eq hon hp, if_pos hb]) n⟩
  · exact ⟨_, runs_of_stop (g := .paused) (by simp)
      (fun l => by rw [turn_eq hon hp, if_neg (Nat.not_le.mpr hb), if_pos hstop]) n⟩
  · obtain rfl := h.refusal hr
    have ht := h.turn_eq (limit := none) rfl
    have htn := h.turn_limit_succ n
    rw [hr] at ht htn
    rw [runFrame_of_stop (by simp [ht]), runCycles_of_stop (by simp [htn]), ht, htn]
    exact ⟨rfl, rfl⟩
  · have ht := h.turn_eq (limit := none) rfl
    have htn := h.turn_limit_succ n
    rw [hw] at ht htn
    exact ⟨runFrame_of_ran hv ht, runCycles_of_ran hv h.1 h.2.1 hq htn⟩
  · obtain ⟨hon, hp, hb, hstop⟩ := h
    have ht : turn (some (now s + 0)) s = (.paused, .next (afterLines p s)) := by
      rw [turn_eq hon hp, if_neg (Nat.not_le.mpr hb), hstop, hp.time_eq_now]
      simp [limitReached]
    rw [runCycles_of_stop fun w hw => (nomatch ht.symm.trans hw), ht]
    rfl
  · exact ⟨runAnswer_ne_noProgress (runLoop_ne_ran hv (timeLeft_lt_frameFuel s) t),
      runAnswer_ne_noProgress (runLoop_ne_ran hv (timeLeft_lt_frameFuel s) t)⟩

end Sys2Proof.Machine
end

section
/-! What an instruction can make of a property of states that its accesses and its register writes keep: `CpuClosed`
and `RiscClosed`. The invariant of a step, the confinement of user mode and the
frames of the units are such properties. -/
namespace Sys2Proof.Machine

/-! ### The CPU -/

/-- A property of states that the accesses of the CPU and its register writes keep; SR as a whole and the run state are
apart (`CpuEnds`). -/
structure CpuClosed (P : State → Prop) : Prop where
  memRead : ∀ {s : State} (sz : Size) (a : Long), P s → P (memRead .cpu sz a s).2
  memWrite : ∀ {s : State} (sz : Size) (a : Long) (v : BitVec sz.bits), P s → P (memWrite .cpu sz a v s)
  setDreg : ∀ {s : State} (r : Fin 8) (v : Long), P s → P (s.setDreg r v)
  setAreg : ∀ {s : State} (r : Fin 8) (v : Long), P s → P (s.setAreg r v)
  setUsp : ∀ {s : State} (v : Long), P s → P (s.setUsp v)
  setPc : ∀ {s : State} (v : Long), P s → P (s.setPc v)
  setCcr : ∀ {s : State} (f : Ccr), P s → P (s.setCcr f)
  record : ∀ {s : State} (ws : List Half), P s → P { s with fetched := ws }

/-- How an instruction of the CPU that starts at `s` ends, `P` being closed: in a state with `P`, by an exception taken
in one, or, in supervisor mode alone, by a write of SR and the run state in one (R24, R614, R640). -/
inductive CpuEnds (P : State → Prop) (s : State) : Result → Prop
  | done {t : State} (h : P t) : CpuEnds P s (.next t)
  | exception {w : State} (v : Byte) (savedPc : Long) (h : P w) :
      CpuEnds P s (.next (takeException (.vector v) savedPc w))
  | system {w : State} (hs : s.cpu.sr.s = true) (sr : StatusReg) (run : CpuRun) (h : P w) :
      CpuEnds P s (.next ((w.setSr sr).setRun run))

theorem setPc_setSr (s : State) (r : StatusReg) (v : Long) : (s.setSr r).setPc v = (s.setPc v).setSr r := rfl

namespace CpuEnds
variable {P : State → Prop} {s : State}

theorem setSr {w : State} (hs : s.cpu.sr.s = true) (r : StatusReg) (h : P w) : CpuEnds P s (.next (w.setSr r)) :=
  .system hs r w.cpu.run h

/-- A privileged instruction: an exception in user mode, its effect in supervisor mode (R640). -/
theorem privileged {effect : State → State} (h : P s)
    (he : s.cpu.sr.s = true → CpuEnds P s (.next (effect s))) : CpuEnds P s (.next (privileged effect s)) := by
  unfold Machine.privileged
  split
  next hs => exact he hs
  next => exact .exception 8 _ h

theorem execTrapv (h : P s) : CpuEnds P s (execTrapv s) := by
  simp only [Machine.execTrapv]
  split
  · exact .exception _ _ h
  · exact .done h

end CpuEnds

namespace CpuClosed
variable {P : State → Prop} (hP : CpuClosed P) {s : State}
include hP

theorem setDregAt (sz : Size) (r : Fin 8) (v : BitVec sz.bits) (h : P s) : P (s.setDregAt sz r v) := hP.setDreg _ _ h

theorem fetch16 (h : P s) : P (fetch16 .cpu s).2 := hP.record _ (hP.setPc _ h)

theorem fetchImm (sz : Size) (h : P s) : P (fetchImm sz s).2 := by
  cases sz with
  | b | w => exact hP.fetch16 h
  | l => exact hP.fetch16 (hP.fetch16 h)

theorem locEA (ea : EA) (sz : Size) (h : P s) : P (locEA ea sz s).2 := by
  cases ea with
  | dn r | an r | ind r => exact h
  | postinc r | predec r => exact hP.setAreg _ _ h
  | disp | index | absW | pcDisp | pcIndex => exact hP.fetch16 h
  | absL => exact hP.fetch16 (hP.fetch16 h)
  | imm => exact hP.fetchImm sz h

theorem addrEA (ea : EA) (h : P s) : P (addrEA ea s).2 := hP.locEA ea .l h

theorem readLoc (l : Loc) (sz : Size) (h : P s) : P (readLoc l sz s).2 := by
  cases l with
  | mem a => exact hP.memRead sz a h
  | dreg r | areg r | imm v => exact h

theorem writeLoc (l : Loc) (sz : Size) (v : BitVec sz.bits) (h : P s) : P (writeLoc l sz v s) := by
  cases l with
  | mem a => exact hP.memWrite sz a v h
  | dreg r => exact hP.setDregAt sz r v h
  | areg r => exact hP.setAreg r _ h
  | imm _ => exact h

theorem readEA (ea : EA) (sz : Size) (h : P s) : P (readEA ea sz s).2 := hP.readLoc _ sz (hP.locEA ea sz h)

theorem writeEA (ea : EA) (sz : Size) (v : BitVec sz.bits) (h : P s) : P (writeEA ea sz v s) :=
  hP.writeLoc _ sz v (hP.locEA ea sz h)

section
variable {sz : Size} (op : BitVec sz.bits → Ccr → BitVec sz.bits × Ccr)
  (op2 : BitVec sz.bits → BitVec sz.bits → Ccr → BitVec sz.bits × Ccr)

theorem modifyEA (ea : EA) (h : P s) : P (modifyEA ea sz op s) :=
  hP.setCcr _ (hP.writeLoc _ sz _ (hP.readEA ea sz h))

theorem modifyDreg (r : Fin 8) (h : P s) : P (modifyDreg r sz op s) := hP.setCcr _ (hP.setDregAt sz r _ h)

theorem eaToDreg (r : Fin 8) (ea : EA) (h : P s) : P (eaToDreg r sz ea op2 s) :=
  hP.modifyDreg _ r (hP.readEA ea sz h)

theorem immToEa (ea : EA) (h : P s) : P (immToEa sz ea op2 s) := hP.modifyEA _ ea (hP.fetchImm sz h)

theorem extendedForm (x : Fin 8) (mode : XMode) (y : Fin 8) (h : P s) : P (extendedForm x sz mode y op2 s) := by
  cases mode with
  | regs => exact hP.modifyDreg _ x h
  | predec => exact hP.modifyEA _ (.predec x) (hP.readEA (.predec y) sz h)

end

theorem push32 (v : Long) (h : P s) : P (push32 v s) := hP.memWrite .l _ _ (hP.setAreg _ _ h)
theorem push16 (v : Half) (h : P s) : P (push16 v s) := hP.memWrite .w _ _ (hP.setAreg _ _ h)
theorem pop32 (h : P s) : P (pop32 s).2 := by
  have hr : P (readLong .cpu (s.areg 7) s).2 := hP.memRead .l _ h
  simp only [Machine.pop32]
  exact hP.setAreg _ _ hr
theorem pop16 (h : P s) : P (pop16 s).2 := by
  have hr : P (readWord .cpu (s.areg 7) s).2 := hP.memRead .w _ h
  simp only [Machine.pop16]
  exact hP.setAreg _ _ hr

theorem moveAt (sz : Size) (dst src : EA) (h : P s) : P (moveAt sz dst src s) :=
  hP.setCcr _ (hP.writeEA dst sz _ (hP.readEA src sz h))

theorem btstAt (b : Nat) (ea : EA) (h : P s) : P (btstAt b ea s) := hP.setCcr _ (hP.readEA ea _ h)

theorem branchTarget (disp : Byte) (h : P s) : P (branchTarget disp s).2 := by
  unfold Machine.branchTarget
  split
  · exact hP.fetch16 h
  · exact h

theorem setMovemReg (i : Nat) (v : Long) (h : P s) : P (setMovemReg i v s) := by
  unfold Machine.setMovemReg
  split
  · exact hP.setDreg _ _ h
  · split
    · exact hP.setAreg _ _ h
    · exact h

theorem movemStoreUp (sz : LongSize) (l : List Nat) (a : Long) (h : P s) : P (movemStoreUp sz l a s) := by
  induction l generalizing a s with
  | nil => exact h
  | cons i rest ih => exact ih _ (hP.memWrite _ _ _ h)

theorem movemStoreDown (sz : LongSize) (l : List Nat) (a : Long) (h : P s) : P (movemStoreDown sz l a s).2 := by
  induction l generalizing a s with
  | nil => exact h
  | cons i rest ih => exact ih _ (hP.memWrite _ _ _ h)

theorem movemLoad (sz : LongSize) (l : List Nat) (a : Long) (h : P s) : P (movemLoad sz l a s).2 := by
  induction l generalizing a s with
  | nil => exact h
  | cons i rest ih => exact ih _ (hP.setMovemReg i _ (hP.memRead _ _ h))

theorem movepStore (l : List Byte) (a : Long) (h : P s) : P (movepStore l a s) := by
  induction l generalizing a s with
  | nil => exact h
  | cons b rest ih => exact ih _ (hP.memWrite .b _ _ h)

theorem movepLoadWord (a : Long) (h : P s) : P (movepLoadWord a s).2 := hP.memRead .b _ (hP.memRead .b _ h)

/-! ### The instructions of several outcomes -/

theorem returnFromException (h : P s) (hs : s.cpu.sr.s = true) :
    CpuEnds P s (.next (returnFromException s)) := by
  unfold Machine.returnFromException
  rw [setPc_setSr]
  exact .setSr hs _ (hP.setPc _ (hP.pop32 (hP.pop16 h)))

theorem execMovemRegsEa (sz : LongSize) (ea : EA) (h : P s) : CpuEnds P s (execMovemRegsEa sz ea s) := by
  cases ea with
  | predec r => exact .done (hP.setAreg _ _ (hP.movemStoreDown sz _ _ (hP.fetch16 h)))
  | _ => exact .done (hP.movemStoreUp sz _ _ (hP.addrEA _ (hP.fetch16 h)))

theorem execMovemEaRegs (sz : LongSize) (ea : EA) (h : P s) : CpuEnds P s (execMovemEaRegs sz ea s) := by
  cases ea with
  | postinc r => exact .done (hP.setAreg _ _ (hP.movemLoad sz _ _ (hP.fetch16 h)))
  | _ => exact .done (hP.movemLoad sz _ _ (hP.addrEA _ (hP.fetch16 h)))

theorem execMovep (r : Fin 8) (dir : MovepDir) (sz : LongSize) (a : Fin 8) (h : P s) :
    CpuEnds P s (execMovep r dir sz a s) := by
  cases dir <;> cases sz
  case regToMem.w => exact .done (hP.movepStore _ _ (hP.fetch16 h))
  case regToMem.l => exact .done (hP.movepStore _ _ (hP.fetch16 h))
  case memToReg.w => exact .done (hP.setDreg _ _ (hP.movepLoadWord _ (hP.fetch16 h)))
  case memToReg.l => exact .done (hP.setDreg _ _ (hP.movepLoadWord _ (hP.movepLoadWord _ (hP.fetch16 h))))

theorem execAddq (q : BitVec 3) (sz : Size) (ea : EA) (h : P s) : CpuEnds P s (execAddq q sz ea s) := by
  cases ea with
  | an r => exact .done (hP.setAreg _ _ h)
  | _ => exact .done (hP.modifyEA _ _ h)

theorem execSubq (q : BitVec 3) (sz : Size) (ea : EA) (h : P s) : CpuEnds P s (execSubq q sz ea s) := by
  cases ea with
  | an r => exact .done (hP.setAreg _ _ h)
  | _ => exact .done (hP.modifyEA _ _ h)

theorem execDivu (r : Fin 8) (ea : EA) (h : P s) : CpuEnds P s (execDivu r ea s) := by
  have hr := hP.readEA ea .w h
  simp only [Machine.execDivu]
  split
  · exact .exception _ _ hr
  · split
    · exact .done (hP.setCcr _ hr)
    · exact .done (hP.setCcr _ (hP.setDreg _ _ hr))

theorem execDivs (r : Fin 8) (ea : EA) (h : P s) : CpuEnds P s (execDivs r ea s) := by
  have hr := hP.readEA ea .w h
  simp only [Machine.execDivs]
  split
  · exact .exception _ _ hr
  · split
    · exact .done (hP.setCcr _ hr)
    · exact .done (hP.setCcr _ (hP.setDreg _ _ hr))

theorem execChk (r : Fin 8) (ea : EA) (h : P s) : CpuEnds P s (execChk r ea s) := by
  have hr := hP.readEA ea .w h
  simp only [Machine.execChk]
  split
  · exact .exception _ _ (hP.setCcr _ hr)
  · split
    · exact .exception _ _ (hP.setCcr _ hr)
    · exact .done (hP.setCcr _ hr)

theorem execBcc (c : Cond) (disp : Byte) (h : P s) : CpuEnds P s (execBcc c disp s) := by
  have hb := hP.branchTarget disp h
  simp only [Machine.execBcc]
  split
  · exact .done (hP.setPc _ hb)
  · exact .done hb

theorem execDbcc (c : Cond) (r : Fin 8) (h : P s) : CpuEnds P s (execDbcc c r s) := by
  have hf := hP.fetch16 h
  have hd := fun v => hP.setDregAt .w r v hf
  simp only [Machine.execDbcc]
  split
  · exact .done hf
  · split
    · exact .done (hd _)
    · exact .done (hP.setPc _ (hd _))

/-- How every instruction of the CPU ends. -/
theorem exec_ends (i : Instr) (hi : i.role = .cpu) (h : P s) : CpuEnds P s (exec i s) := by
  cases i with
  | oriToCcr | andiToCcr | eoriToCcr => exact .done (hP.setCcr _ (hP.fetch16 h))
  | oriToSr | andiToSr | eoriToSr => exact .privileged h fun hs => .setSr hs _ (hP.fetch16 h)
  | moveEaSr ea => exact .privileged h fun hs => .setSr hs _ (hP.readEA ea .w h)
  | stop => exact .privileged h fun hs => .system hs _ _ (hP.fetch16 h)
  | rte => exact .privileged h (hP.returnFromException h)
  | reset => exact .privileged h fun _ => .done h
  | moveAnUsp r => exact .privileged h fun _ => .done (hP.setUsp _ h)
  | moveUspAn r => exact .privileged h fun _ => .done (hP.setAreg r _ h)
  | illegal | trap | lineA | lineF => exact .exception _ _ h
  | trapv => exact .execTrapv h
  | chk r ea => exact hP.execChk r ea h
  | divu r ea => exact hP.execDivu r ea h
  | divs r ea => exact hP.execDivs r ea h
  | ori | andi | subi | addi | eori => exact .done (hP.immToEa _ _ h)
  | cmpi sz ea => exact .done (hP.setCcr _ (hP.readEA ea sz (hP.fetchImm sz h)))
  | btstImm ea => exact .done (hP.btstAt _ ea (hP.fetch16 h))
  | bchgImm ea | bclrImm ea | bsetImm ea => exact .done (hP.modifyEA _ ea (hP.fetch16 h))
  | btstReg r ea => exact .done (hP.btstAt _ ea h)
  | bchgReg | bclrReg | bsetReg | nbcd | tas | negx | neg | notEa => exact .done (hP.modifyEA _ _ h)
  | asrEa | aslEa | lsrEa | lslEa | roxrEa | roxlEa | rorEa | rolEa => exact .done (hP.modifyEA _ _ h)
  | asrDn | aslDn | lsrDn | lslDn | roxrDn | roxlDn | rorDn | rolDn => exact .done (hP.modifyDreg _ _ h)
  | movep r dir sz a => exact hP.execMovep r dir sz a h
  | moveB | moveL | moveW => exact .done (hP.moveAt _ _ _ h)
  | nop => exact .done h
  | rts => exact .done (hP.setPc _ (hP.pop32 h))
  | rtr => exact .done (hP.setPc _ (hP.pop32 (hP.setCcr _ (hP.pop16 h))))
  | link r => exact .done (hP.setAreg _ _ (hP.setAreg _ _ (hP.memWrite .l _ _ (hP.setAreg _ _ (hP.fetch16 h)))))
  | unlk r => exact .done (hP.setAreg _ _ (hP.setAreg _ _ (hP.memRead .l _ (hP.setAreg _ _ h))))
  | jsr ea => exact .done (hP.setPc _ (hP.push32 _ (hP.addrEA ea h)))
  | jmp ea => exact .done (hP.setPc _ (hP.addrEA ea h))
  | bra disp => exact .done (hP.setPc _ (hP.branchTarget disp h))
  | bsr disp => exact .done (hP.setPc _ (hP.push32 _ (hP.branchTarget disp h)))
  | bcc c disp => exact hP.execBcc c disp h
  | dbcc c r => exact hP.execDbcc c r h
  | swap | extL | moveq | extW => exact .done (hP.setCcr _ (hP.setDreg _ _ h))
  | pea ea => exact .done (hP.push32 _ (hP.addrEA ea h))
  | lea r ea => exact .done (hP.setAreg r _ (hP.addrEA ea h))
  | movemRegsEa sz ea => exact hP.execMovemRegsEa sz ea h
  | movemEaRegs sz ea => exact hP.execMovemEaRegs sz ea h
  | tst sz ea => exact .done (hP.setCcr _ (hP.readEA ea sz h))
  | clr sz ea => exact .done (hP.setCcr _ (hP.writeEA ea sz _ h))
  | moveSrEa ea | scc c ea => exact .done (hP.writeEA ea _ _ h)
  | moveEaCcr ea => exact .done (hP.setCcr _ (hP.readEA ea .w h))
  | addq q sz ea => exact hP.execAddq q sz ea h
  | subq q sz ea => exact hP.execSubq q sz ea h
  | sbcd | abcd | addx | subx => exact .done (hP.extendedForm _ _ _ _ h)
  | orEaDn | subEaDn | andEaDn | addEaDn => exact .done (hP.eaToDreg _ _ _ h)
  | orDnEa | subDnEa | andDnEa | addDnEa | eor => exact .done (hP.modifyEA _ _ h)
  | moveaW r ea | moveaL r ea | addaW r ea | addaL r ea | subaW r ea | subaL r ea =>
    exact .done (hP.setAreg r _ (hP.readEA ea _ h))
  | cmpaW r ea | cmpaL r ea | cmp r sz ea => exact .done (hP.setCcr _ (hP.readEA ea _ h))
  | cmpm x sz y => exact .done (hP.setCcr _ (hP.readEA _ sz (hP.readEA _ sz h)))
  | mulu r ea | muls r ea => exact .done (hP.setCcr _ (hP.setDreg r _ (hP.readEA ea .w h)))
  | exgDD x y => exact .done (hP.setDreg y _ (hP.setDreg x _ h))
  | exgAA x y => exact .done (hP.setAreg y _ (hP.setAreg x _ h))
  | exgDA x y => exact .done (hP.setAreg y _ (hP.setDreg x _ h))
  | _ => cases hi

end CpuClosed

/-! ### The units -/

/-- A property of states that the accesses of a unit and the writes of its registers keep, `pc` being even (R32). -/
structure RiscClosed (u : Coproc) (P : State → Prop) : Prop where
  memRead : ∀ {s : State} (sz : Size) (a : Long), P s → P (memRead (.risc u) sz a s).2
  memWrite : ∀ {s : State} (sz : Size) (a : Long) (v : BitVec sz.bits), P s → P (memWrite (.risc u) sz a v s)
  setRisc : ∀ {s : State} (r : Risc), P s → r.pc = (s.risc u).pc ∨ r.pc.getLsbD 0 = false → P (s.setRisc u r)
  setHidata : ∀ {s : State} (v : Long), P s → P (s.setHidata v)
  setAcc : ∀ {s : State} (x : Int), P s → P (s.setAcc u x)
  addAcc : ∀ {s : State} (x : Int), P s → P (s.addAcc u x)
  scratch : ∀ {s : State} (ws : List Half) (n : Nat), P s → P { s with fetched := ws, stepCycles := n }

/-- An answer of a unit's instruction keeps a property: what holds of its next state. -/
def NextHas (P : State → Prop) : Result → Prop
  | .next t => P t
  | .fault _ => True
  | .refused _ => True

namespace RiscClosed
variable {u : Coproc} {P : State → Prop} (hP : RiscClosed u P) {s : State}
include hP

theorem setRpc (v : Long) (h : P s) : P (s.setRpc u v) := hP.setRisc _ h (.inr (evenAddr_getLsbD_zero v))

theorem setBank0 (n : Fin 32) (v : Long) (h : P s) : P (s.setBank0 u n v) := hP.setRisc _ h (.inl rfl)
theorem setBank1 (n : Fin 32) (v : Long) (h : P s) : P (s.setBank1 u n v) := hP.setRisc _ h (.inl rfl)
theorem setZN (z n : Bool) (h : P s) : P (s.setZN u z n) := hP.setRisc _ h (.inl rfl)
theorem setZNC (z n c : Bool) (h : P s) : P (s.setZNC u z n c) := hP.setRisc _ h (.inl rfl)

theorem setRreg (n : Fin 32) (v : Long) (h : P s) : P (s.setRreg u n v) := by
  unfold State.setRreg
  split
  · exact hP.setBank1 n v h
  · exact hP.setBank0 n v h

theorem setAltReg (n : Fin 32) (v : Long) (h : P s) : P (s.setAltReg u n v) := by
  unfold State.setAltReg
  split
  · exact hP.setBank0 n v h
  · exact hP.setBank1 n v h

theorem fetch16 (h : P s) : P (fetch16 (.risc u) s).2 := hP.scratch _ _ (hP.setRpc _ h)

theorem writeZN (n : Fin 32) (r : Long) (h : P s) : P (writeZN u n r s) := hP.setZN _ _ (hP.setRreg n r h)
theorem writeZNC (n : Fin 32) (rc : Long × Bool) (h : P s) : P (writeZNC u n rc s) :=
  hP.setZNC _ _ _ (hP.setRreg n rc.1 h)

theorem riscLoad (a : Long) (n : Fin 32) (h : P s) : P (riscLoad u a n s) := hP.setRreg n _ (hP.memRead .l a h)

theorem loadByte (a : Long) (h : P s) : P (loadByte u a s).2 := by
  unfold Machine.loadByte
  split
  · exact hP.memRead .l a h
  · exact hP.memRead .b a h

theorem loadWord (a : Long) (h : P s) : P (loadWord u a s).2 := by
  unfold Machine.loadWord
  split
  · exact hP.memRead .l a h
  · exact hP.memRead .w a h

theorem storeByte (a v : Long) (h : P s) : P (storeByte u a v s) := by
  unfold Machine.storeByte
  split
  · exact hP.memWrite .l a _ h
  · exact hP.memWrite .b a _ h

theorem storeWord (a v : Long) (h : P s) : P (storeWord u a v s) := by
  unfold Machine.storeWord
  split
  · exact hP.memWrite .l a _ h
  · exact hP.memWrite .w a _ h

theorem mmultLoop (m : Fin 32) (stride : Long) (left i : Nat) (a : Long) (acc : Int) (h : P s) :
    P (mmultLoop u m stride left i a acc s).2 := by
  induction left generalizing i a acc s with
  | zero => exact h
  | succ left ih => exact ih _ _ _ (hP.memRead .l a h)

theorem execRDiv (m n : Fin 32) (h : P s) : NextHas P (execRDiv u m n s) := by
  simp only [Machine.execRDiv]
  split
  · exact hP.setRreg n _ h
  · exact hP.setRisc _ (hP.setRreg n _ h) (.inl rfl)

theorem execRAbs (n : Fin 32) (h : P s) : NextHas P (execRAbs u n s) := by
  simp only [Machine.execRAbs]
  split
  · exact hP.setZNC _ _ _ h
  · exact hP.setZNC _ _ _ (hP.setRreg n _ h)

theorem execRSh (m n : Fin 32) (h : P s) : NextHas P (execRSh u m n s) := by
  simp only [Machine.execRSh]
  split <;> exact hP.writeZNC n _ h

theorem execRSha (m n : Fin 32) (h : P s) : NextHas P (execRSha u m n s) := by
  simp only [Machine.execRSha]
  split <;> exact hP.writeZNC n _ h

/-- The instruction of a delay slot. A CPU instruction never comes out of a unit's decoder (R206). -/
theorem execSlot (i : Instr) (hi : i.role = .risc u) (h : P s) : NextHas P (execSlot i s) := by
  cases i <;> cases hi
  case rAdd | rAddc | rAddq | rSub | rSubc | rSubq | rNeg | rShlq | rShrq | rSharq | rRor | rRorq =>
    exact hP.writeZNC _ _ h
  case rAnd | rOr | rXor | rNot | rBset | rBclr | rMult | rImult | rMtoi | rNormi => exact hP.writeZN _ _ h
  case gSat8 | gSat16 | gSat24 | dSat16s | dSat32s | dMirror => exact hP.writeZN _ _ h
  case rAddqt | rSubqt | rResmac | rMove | rMoveq | rMovefa | rMovePc | gPack | gUnpack => exact hP.setRreg _ _ h
  case rMoveta => exact hP.setAltReg _ _ h
  case rBtst => exact hP.setZN _ _ h
  case rImultn => exact hP.setZN _ _ (hP.setAcc _ h)
  case rImacn => exact hP.addAcc _ h
  case rCmp | rCmpq => exact hP.setZNC _ _ _ h
  case rDiv m n => exact hP.execRDiv m n h
  case rAbs n => exact hP.execRAbs n h
  case rSh m n => exact hP.execRSh m n h
  case rSha m n => exact hP.execRSha m n h
  case dSubqmod | dAddqmod => exact hP.writeZNC _ _ h
  case rLoadb => exact hP.setRreg _ _ (hP.loadByte _ h)
  case rLoadw => exact hP.setRreg _ _ (hP.loadWord _ h)
  case rLoad | rLoadR14q | rLoadR15q | rLoadR14m | rLoadR15m => exact hP.riscLoad _ _ h
  case gLoadp => exact hP.riscLoad _ _ (hP.setHidata _ (hP.memRead .l _ h))
  case rStoreb => exact hP.storeByte _ _ h
  case rStorew => exact hP.storeWord _ _ h
  case rStore | rStoreR14q | rStoreR15q | rStoreR14m | rStoreR15m => exact hP.memWrite .l _ _ h
  case gStorep => exact hP.memWrite .l _ _ (hP.memWrite .l _ _ h)
  case rMmult => exact hP.writeZN _ _ (hP.mmultLoop _ _ _ _ _ _ h)
  case rNop | dReserved62 => exact h
  case rJump | rJr | rMovei => exact trivial

theorem jumpTo (target : Long) (h : P s) : NextHas P (jumpTo u target s) := by
  have hf := hP.fetch16 (s := s.chargeFetched (.risc u)) (hP.scratch _ _ h)
  simp only [Machine.jumpTo]
  split
  next i hi =>
    have slot := hP.execSlot i (role_of_decode hi) hf
    split
    next t ht =>
      rw [ht] at slot
      exact hP.setRpc target slot
    next => exact trivial
    next => exact trivial
  next => exact hP.setRpc target hf

theorem execRJump (m : Fin 32) (c : BitVec 5) (h : P s) : NextHas P (execRJump u m c s) := by
  unfold Machine.execRJump
  split
  · exact hP.jumpTo _ h
  · exact h

theorem execRJr (q c : BitVec 5) (h : P s) : NextHas P (execRJr u q c s) := by
  unfold Machine.execRJr
  split
  · exact hP.jumpTo _ h
  · exact h

/-- Every instruction of a unit: as in a delay slot, but for the three that a slot may not hold. -/
theorem exec (i : Instr) (hi : i.role = .risc u) (h : P s) : NextHas P (exec i s) := by
  have slot := hP.execSlot i hi h
  cases i <;> cases hi
  case rJump m c => exact hP.execRJump m c h
  case rJr q c => exact hP.execRJr q c h
  case rMovei n => exact hP.setRreg n _ (hP.fetch16 (hP.fetch16 h))
  all_goals exact slot

end RiscClosed
end Sys2Proof.Machine
end

section
/-! The part of the invariant that every instruction, bus access and event keeps: `Sound`. `StepKeepsInvariant` (O53) and
`ResetInvariant` (O54) follow. -/
namespace Sys2Proof.Machine

/-! ### The regions of an aligned access -/

/-- Every boundary of a region is a multiple of 4 (R111), so the four bytes of an aligned long lie in one region. -/
theorem regionAt_congr {a b : Nat} (h : a / 4 = b / 4) : regionAt a = regionAt b := by
  have aligned : ∀ g ∈ regions, g.start % 4 = 0 ∧ g.stop % 4 = 0 := by decide
  have contains : ∀ g ∈ regions, g.contains a = g.contains b := fun g hg => by
    obtain ⟨hs, ht⟩ := aligned g hg
    have h1 : g.start ≤ a ↔ g.start ≤ b := by omega
    have h2 : a < g.stop ↔ b < g.stop := by omega
    simp only [Region.contains, h1, h2]
  exact List.find?_congr contains

theorem inByteArray_congr {a b : Nat} (h : a / 4 = b / 4) : inByteArray a = inByteArray b := by
  unfold inByteArray
  rw [regionAt_congr h]

theorem inByteArray_of_regionAt {a : Nat} {g : Region} (h : regionAt a = some g) (hb : g.backing = .bytes) :
    inByteArray a = true := by
  simp [inByteArray, h, hb]

/-- The address of an access is a multiple of its width (R102). -/
theorem alignedAddr_mod (sz : Size) (addr : Long) : alignedAddr sz addr % sz.bytes = 0 := by
  cases sz <;> simp only [alignedAddr, Size.bytes] <;> omega

/-! ### Memory -/

/-- Memory in canonical form, and nowhere but in byte-array regions (R107, R110). -/
structure Memory.Stored (m : Memory) : Prop where
  canonical : m.wf = true
  inRegions : m.inRegions = true

namespace Memory

theorem inRegions_write {m : Memory} (h : m.inRegions = true) {a : Nat} (ha : inByteArray a = true) (b : Byte) :
    (write m a b).inRegions = true := by
  induction m with
  | nil => by_cases hb : b = unlisted <;> simp [write, hb, inRegions, ha]
  | cons c rest ih =>
    obtain ⟨k, v⟩ := c
    simp only [inRegions, List.all_cons, Bool.and_eq_true] at h ih
    simp only [write]
    split
    · split <;> simp [inRegions, ha, h]
    · split
      · split <;> simp [inRegions, ha, h]
      · simp [inRegions, h, ih h.2]

theorem Stored.write {m : Memory} (h : m.Stored) {a : Nat} (ha : inByteArray a = true) (b : Byte) :
    (m.write a b).Stored :=
  ⟨wf_write h.canonical a b, inRegions_write h.inRegions ha b⟩

/-- An aligned write that starts in a byte array lies in it. -/
theorem Stored.writeAt {m : Memory} (h : m.Stored) {sz : Size} {a : Nat} (ha : inByteArray a = true)
    (aligned : a % sz.bytes = 0) (v : BitVec sz.bits) : (m.writeAt sz a v).Stored := by
  have next : ∀ k < sz.bytes, inByteArray (a + k) = true := fun k hk => by
    rw [← ha]
    refine inByteArray_congr ?_
    cases sz <;> simp only [Size.bytes] at aligned hk <;> omega
  cases sz with
  | b => exact h.write ha v
  | w => exact (h.write ha _).write (next 1 (by decide)) _
  | l =>
    exact (((h.write ha _).write (next 1 (by decide)) _).write (next 2 (by decide)) _).write (next 3 (by decide)) _

theorem Stored.extStores {m : Memory} (h : m.Stored) (l : List Host.Cell) : (extStores l m).Stored := by
  induction l generalizing m with
  | nil => exact h
  | cons c rest ih =>
    simp only [Machine.extStores]
    split
    next ha => exact ih (h.write ha _)
    next => exact ih h

end Memory

/-! ### The invariant between the parts of a step -/

/-- The invariant but for the scheduler and the scratch fields: what holds at every point of a step. -/
structure Sound (s : State) : Prop where
  mem : s.mem.Stored
  units : s.ext.units.wf = true
  cpuPc : s.cpu.pc.getLsbD 0 = false
  riscPc : ∀ u, (s.risc u).pc.getLsbD 0 = false

theorem Inv.sound {s : State} (h : Inv s) : Sound s :=
  ⟨⟨h.memCanonical, h.memInRegions⟩, h.unitsCanonical, h.cpuPcEven, fun u => by
    cases u
    · exact h.gpuPcEven
    · exact h.dspPcEven⟩

theorem Sound.inv {s : State} (h : Sound s) (hl : s.sched.line ≤ s.params.lines) (hf : s.fetched = [])
    (hc : s.stepCycles = 0) : Inv s :=
  ⟨h.mem.canonical, h.mem.inRegions, h.units, h.cpuPc, h.riscPc .gpu, h.riscPc .dsp, hl, hf, hc⟩

namespace Sound
variable {s t : State}

/-- Nothing but the memory, the devices' storage and the program counters matters. -/
theorem congr (h : Sound s) (hm : t.mem = s.mem) (he : t.ext = s.ext) (hc : t.cpu.pc = s.cpu.pc)
    (hr : ∀ u, (t.risc u).pc = (s.risc u).pc) : Sound t :=
  ⟨hm ▸ h.mem, he ▸ h.units, hc ▸ h.cpuPc, fun u => hr u ▸ h.riscPc u⟩

/-- A change of the CPU and the scratch fields. -/
theorem of_same (h : Sound s) (g : Same s t) (hc : t.cpu.pc.getLsbD 0 = false) : Sound t :=
  ⟨g.mem ▸ h.mem, g.ext ▸ h.units, hc, fun u => g.risc u ▸ h.riscPc u⟩

theorem setMem (h : Sound s) {m : Memory} (hm : m.Stored) : Sound (s.setMem m) :=
  ⟨hm, h.units, h.cpuPc, fun u => by simpa using h.riscPc u⟩

theorem setLine (h : Sound s) (p : Role) (k : Nat) (l : Line) : Sound (s.setLine p k l) :=
  h.congr (by simp) (by simp) (by simp) (by simp)

theorem raiseLine (h : Sound s) (p : Role) (k : Nat) : Sound (raiseLine p k s) := h.setLine ..
theorem setEnabled (h : Sound s) (p : Role) (k : Nat) (b : Bool) : Sound (setEnabled p k b s) := h.setLine ..

theorem clearLineIf (h : Sound s) (p : Role) (k : Nat) (b : Bool) : Sound (clearLineIf p k b s) := by
  unfold Machine.clearLineIf
  split
  · exact h.setLine ..
  · exact h

theorem setRisc (h : Sound s) {u : Coproc} {r : Risc} (hr : r.pc = (s.risc u).pc ∨ r.pc.getLsbD 0 = false) :
    Sound (s.setRisc u r) := by
  have even : r.pc.getLsbD 0 = false := hr.elim (fun e => e ▸ h.riscPc u) id
  refine ⟨by simpa using h.mem, by simpa using h.units, by simpa using h.cpuPc, fun w => ?_⟩
  by_cases hw : w = u
  · subst hw
    simpa using even
  · rw [State.setRisc_risc_ne _ _ _ _ hw]
    exact h.riscPc w

/-! ### Devices -/

theorem extRaises (h : Sound s) (l : List (Role × Nat)) : Sound (extRaises l s) := by
  induction l generalizing s with
  | nil => exact h
  | cons c rest ih => exact ih (h.raiseLine ..)

theorem extEffect (h : Sound s) (r : ExtResponse) : Sound (extEffect r s) := by
  have stored : Sound { s with mem := extStores r.stores s.mem, ext := { s.ext with own := r.own } } :=
    ⟨h.mem.extStores _, h.units, h.cpuPc, fun u => by cases u <;> [exact h.riscPc .gpu; exact h.riscPc .dsp]⟩
  exact stored.extRaises _

theorem extCall (h : Sound s) (c : ExtCall) : Sound (extCall c s) := by
  unfold Machine.extCall
  split
  · exact h
  · exact h.extEffect _

theorem extWrite (h : Sound s) (unit ua : Nat) (v : Long) : Sound (extWrite unit ua v s) := by
  unfold Machine.extWrite
  split
  · refine ⟨h.mem, ?_, h.cpuPc, fun u => by cases u <;> [exact h.riscPc .gpu; exact h.riscPc .dsp]⟩
    simp only
    split
    · exact Memory.wf_write16 h.units _ _
    · exact Memory.wf_write32 h.units _ _
  · exact h.extEffect _

theorem writeInt1 (h : Sound s) (v : Long) : Sound (writeInt1 v s) := by
  unfold Machine.writeInt1
  iterate 5 apply Sound.clearLineIf
  iterate 5 apply Sound.setEnabled
  exact h

theorem writeFlags (h : Sound s) (u : Coproc) (v : Long) : Sound (writeFlags u v s) := by
  unfold Machine.writeFlags
  iterate 6 apply Sound.clearLineIf
  refine Sound.setRisc ?_ (.inl rfl)
  iterate 6 apply Sound.setEnabled
  exact h.setRisc (.inl rfl)

theorem writeCtrl (h : Sound s) (u : Coproc) (v : Long) : Sound (writeCtrl u v s) := by
  have h0 : Sound (s.setRisc u { s.risc u with singleStep := v.getLsbD 3, busHog := v.getLsbD 11 }) :=
    h.setRisc (.inl rfl)
  unfold Machine.writeCtrl
  refine Sound.setRisc ?_ (.inl rfl)
  split <;> split
  · exact (h0.raiseLine ..).raiseLine ..
  · exact h0.raiseLine ..
  · exact h0.raiseLine ..
  · exact h0

theorem regRead (h : Sound s) (r : DevReg) : Sound (regRead r s).2 := by
  cases r with
  | ext unit ua => exact h.extCall _
  | _ => exact h

theorem regWrite (h : Sound s) (r : DevReg) (v : Long) : Sound (regWrite r v s) := by
  cases r with
  | vi => exact h.congr rfl rfl rfl fun u => by cases u <;> rfl
  | int1 => exact h.writeInt1 v
  | flags u => exact h.writeFlags u v
  | ctrl u => exact h.writeCtrl u v
  | pcPort u => exact h.setRisc (.inr (evenAddr_getLsbD_zero v))
  | mtxc u | mtxa u | endian u | remain u => exact h.setRisc (.inl rfl)
  | hidataOrMod u => cases u <;> exact h.congr rfl rfl rfl fun w => by cases w <;> rfl
  | machi => exact h
  | ext unit ua => exact h.extWrite unit ua v

/-! ### Accesses -/

theorem busRead (h : Sound s) (sz : Size) (a : Nat) : Sound (busRead sz a s).2 := by
  have device : ∀ b, Sound (deviceRead b sz a s).2 := fun b => by
    unfold deviceRead
    split
    · exact h.regRead _
    · exact (h.regRead _).regRead _
  unfold Machine.busRead
  split
  · exact h
  · split
    · split
      · exact h
      · exact device _
    · exact h

theorem busWrite (h : Sound s) {sz : Size} {a : Nat} (aligned : a % sz.bytes = 0) (v : BitVec sz.bits) :
    Sound (busWrite sz a v s) := by
  have device : ∀ b, Sound (deviceWrite b sz a v s) := fun b => by
    unfold deviceWrite
    split
    · exact h.regWrite _ _
    · exact (h.regWrite _ _).regWrite _ _
  unfold Machine.busWrite
  split
  · exact h
  next g hg =>
    split
    · split
      next hb => exact h.setMem (h.mem.writeAt (inByteArray_of_regionAt hg hb) aligned v)
      next => exact device _
    · exact h

theorem memRead (h : Sound s) (p : Role) (sz : Size) (a : Long) : Sound (memRead p sz a s).2 := by
  cases sz <;> cases p
  case l.cpu => exact (h.busRead .w _).busRead .w _
  all_goals exact h.busRead _ _

theorem memWrite (h : Sound s) (p : Role) (sz : Size) (a : Long) (v : BitVec sz.bits) :
    Sound (memWrite p sz a v s) := by
  cases sz <;> cases p
  case l.cpu => exact (h.busWrite (alignedAddr_mod .w _) _).busWrite (alignedAddr_mod .w _) _
  all_goals exact h.busWrite (alignedAddr_mod _ _) _

end Sound

/-! ### Instructions -/

theorem cpuClosed_sound : CpuClosed Sound where
  memRead sz a h := h.memRead .cpu sz a
  memWrite sz a v h := h.memWrite .cpu sz a v
  setDreg r v h := h.of_same (same_setDreg _ r v) h.cpuPc
  setAreg r v h := h.of_same (same_setAreg _ r v) (by simpa using h.cpuPc)
  setUsp v h := h.of_same (same_setUsp _ v) h.cpuPc
  setPc v h := h.of_same (same_setPc _ v) (evenAddr_getLsbD_zero v)
  setCcr f h := h.of_same (same_setCcr _ f) h.cpuPc
  record ws h := h.of_same (same_patch _ _ ws _) h.cpuPc

theorem riscClosed_sound (u : Coproc) : RiscClosed u Sound where
  memRead sz a h := h.memRead _ sz a
  memWrite sz a v h := h.memWrite _ sz a v
  setRisc _ h hr := h.setRisc hr
  setHidata v h := h.congr rfl rfl rfl fun w => by cases w <;> rfl
  setAcc x h := h.congr (by simp) (by simp) (by simp) fun w => by cases u <;> cases w <;> rfl
  addAcc x h := h.congr (by simp) (by simp) (by simp) fun w => by cases u <;> cases w <;> rfl
  scratch ws n h := h.of_same (same_patch _ _ ws n) h.cpuPc

namespace Sound
variable {s t : State}

theorem setRun (h : Sound s) (r : CpuRun) : Sound (s.setRun r) := h.of_same (same_setRun s r) h.cpuPc
theorem setSr (h : Sound s) (r : StatusReg) : Sound (s.setSr r) := h.of_same (same_setSr s r) h.cpuPc
theorem addStepCycles (h : Sound s) (n : Nat) : Sound (s.addStepCycles n) :=
  h.of_same (same_addStepCycles s n) h.cpuPc
theorem chargeFetched (h : Sound s) (p : Role) : Sound (s.chargeFetched p) :=
  h.of_same (same_chargeFetched s p) h.cpuPc

theorem takeException (h : Sound s) (k : ExcKind) (a : Long) : Sound (takeException k a s) := by
  have pushed : Sound (push16 s.cpu.sr.toHalf (push32 a (s.setSr (excSr k s.cpu.sr)))) :=
    cpuClosed_sound.push16 _ (cpuClosed_sound.push32 _ (h.setSr _))
  exact ((cpuClosed_sound.setPc _ (pushed.memRead .cpu .l _)).setRun _).addStepCycles _

theorem of_cpuEnds {r : Result} (h : CpuEnds Sound s r) : NextHas Sound r := by
  cases h with
  | done ht => exact ht
  | exception v a hw => exact hw.takeException ..
  | system _ sr run hw => exact (hw.setSr sr).setRun run

theorem exec (h : Sound s) (i : Instr) : NextHas Sound (exec i s) := by
  cases hr : i.role with
  | cpu => exact of_cpuEnds (cpuClosed_sound.exec_ends i hr h)
  | risc u => exact (riscClosed_sound u).exec i hr h

/-! ### The step of a processor -/

theorem traceIf (h : Sound s) (due : Bool) : Sound (traceIf due s) := by
  cases due
  · exact h
  · exact h.takeException ..

theorem cpuInterruptCheck (h : Sound s) : Sound (cpuInterruptCheck s) := by
  unfold Machine.cpuInterruptCheck
  split
  · exact h
  · split
    · exact h.takeException ..
    · exact h

theorem cpuTail (h : Sound s) (traced : Bool) : Sound (cpuTail traced s) :=
  ((h.chargeFetched .cpu).traceIf traced).cpuInterruptCheck

theorem riscEntry (h : Sound s) (u : Coproc) (k : Nat) : Sound (riscEntry u k s) := by
  have hP := riscClosed_sound u
  have masked : Sound (s.setRisc u { s.risc u with imask := true }) := h.setRisc (.inl rfl)
  exact hP.setRpc _ (hP.setBank0 _ _ (hP.memWrite .l _ _ (hP.setBank0 _ _ masked)))

theorem riscInterruptCheck (h : Sound s) (u : Coproc) : Sound (riscInterruptCheck u s) := by
  unfold Machine.riscInterruptCheck
  split
  · exact h
  · split
    · exact h
    · have woken : Sound (s.setRisc u { s.risc u with go := true }) := h.setRisc (.inl rfl)
      exact (woken.riscEntry u _).addStepCycles _

theorem endStep (h : Sound s) (p : Role) : Sound (endStep p s) := by
  refine h.congr ?_ ?_ ?_ fun u => ?_
  · rcases p with _ | ⟨_ | _⟩ <;> rfl
  · rcases p with _ | ⟨_ | _⟩ <;> rfl
  · rcases p with _ | ⟨_ | _⟩ <;> rfl
  · rcases p with _ | ⟨_ | _⟩ <;> cases u <;> rfl

theorem finish {r : Result} (h : NextHas Sound r) (p : Role) {k : State → State} (hk : ∀ t, Sound t → Sound (k t)) :
    NextHas Sound (finish p k r) := by
  cases r with
  | next t => exact (hk t h).endStep p
  | fault r => exact trivial
  | refused r => exact trivial

theorem cpuInstruction (h : Sound s) : NextHas Sound (cpuInstruction s) := by
  have hf := cpuClosed_sound.fetch16 h
  have tail := fun traced t (ht : Sound t) => ht.cpuTail traced
  simp only [Machine.cpuInstruction]
  split
  · exact finish (r := .next _) (hf.takeException ..) .cpu (tail _)
  · exact finish (hf.exec _) .cpu (tail _)

theorem riscInstruction (h : Sound s) (u : Coproc) : NextHas Sound (riscInstruction u s) := by
  have hf := (riscClosed_sound u).fetch16 h
  have tail : ∀ t, Sound t → Sound (riscTail u t) := fun t ht => (ht.chargeFetched _).riscInterruptCheck u
  simp only [Machine.riscInstruction]
  split
  · exact finish (r := .next _) hf (.risc u) tail
  · exact finish (hf.exec _) (.risc u) tail

theorem processorStep (h : Sound s) (p : Role) : NextHas Sound (processorStep p s) := by
  have hb : Sound (beginStep s) := h.of_same (same_patch s s.cpu [] 0) h.cpuPc
  cases p with
  | cpu =>
    simp only [Machine.processorStep, cpuStep]
    split
    · exact hb.cpuInstruction
    · exact (hb.addStepCycles _).cpuInterruptCheck.endStep .cpu
    · exact trivial
  | risc u =>
    simp only [Machine.processorStep, riscStep]
    split
    · exact hb.riscInstruction u
    · exact ((hb.addStepCycles _).riscInterruptCheck u).endStep (.risc u)

/-! ### Events and turns -/

theorem lineEvent (h : Sound s) (k : Nat) : Sound (lineEvent k s) := by
  unfold Machine.lineEvent
  split
  · exact (h.raiseLine ..).extCall _
  · exact h.extCall _

/-- The scheduler is not a part of it. -/
theorem setSched (h : Sound s) (x : Sched) : Sound { s with sched := x } :=
  h.congr rfl rfl rfl fun u => by cases u <;> rfl

theorem fireDue (h : Sound s) (left t : Nat) : Sound (fireDue left t s) := by
  induction left generalizing s with
  | zero => exact h
  | succ left ih =>
    simp only [Machine.fireDue]
    split
    · exact ih (Sound.lineEvent (h.setSched _) _)
    · exact h

theorem step (h : Sound s) (ht : step s = .next t) : Sound t := by
  have hon : s.cpu.run ≠ .off := fun hoff => by simp [Machine.step, turn_off hoff] at ht
  obtain ⟨p, hp⟩ := exists_picked hon
  have hl : Sound (afterLines p s) := h.fireDue _ _
  rw [Machine.step, turn_eq hon hp] at ht
  split at ht
  · exact Host.Outcome.next.inj ht ▸ (hl.extCall (.tick .frame)).setSched _
  · split at ht
    · exact Host.Outcome.next.inj ht ▸ hl.setSched _
    · have ends := hl.processorStep p
      simp only [limitReached, Bool.false_eq_true, if_false] at ht
      rw [ht] at ends
      exact ends

end Sound

/-! ### The scheduler and the scratch fields -/

/-- No more line events fire than lines are left (R655, R656). -/
theorem fireDue_line_le (left t : Nat) {s : State} (h : s.sched.line ≤ s.params.lines) :
    (fireDue left t s).sched.line ≤ s.params.lines := by
  induction left generalizing s with
  | zero => exact h
  | succ left ih =>
    simp only [fireDue]
    split
    next hd =>
      have hk := lineEvent_readKeeps (s.sched.line + 1) (s.atLine (s.sched.line + 1))
      have hs : (lineEvent (s.sched.line + 1) (s.atLine (s.sched.line + 1))).sched.line = s.sched.line + 1 :=
        congrArg Sched.line hk.sched
      have hm : (lineEvent (s.sched.line + 1) (s.atLine (s.sched.line + 1))).params = s.params := hk.params
      have bound : (lineEvent (s.sched.line + 1) (s.atLine (s.sched.line + 1))).sched.line ≤
          (lineEvent (s.sched.line + 1) (s.atLine (s.sched.line + 1))).params.lines := by
        rw [hs, hm]
        exact hd.1
      exact (ih bound).trans_eq (congrArg Params.lines hm)
    next => exact h

/-- The scratch fields are clear between steps (log 19), and the line events stay within the lines. -/
theorem step_keeps_bookkeeping {s t : State} (hl : s.sched.line ≤ s.params.lines) (hf : s.fetched = [])
    (hc : s.stepCycles = 0) (h : step s = .next t) :
    t.sched.line ≤ t.params.lines ∧ t.fetched = [] ∧ t.stepCycles = 0 := by
  obtain ⟨p, -, ht⟩ := step_cases h
  have hb := fireDue_readKeeps (s.params.lines - s.sched.line) (s.time p) s
  have bound : (afterLines p s).sched.line ≤ s.params.lines := fireDue_line_le _ _ hl
  obtain rfl | rfl | ⟨e, rfl, he⟩ := ht
  · have hx := extCall_readKeeps (.tick .frame) (afterLines p s)
    exact ⟨Nat.zero_le _, hx.fetched.trans (hb.fetched.trans hf), hx.stepCycles.trans (hb.stepCycles.trans hc)⟩
  · exact ⟨bound.trans_eq (congrArg Params.lines (afterLines_params p s).symm), hb.fetched.trans hf, hb.stepCycles.trans hc⟩
  · obtain ⟨hm, -, hs, -⟩ := outside_eq_iff.mp he
    have line : (endStep p e).sched.line = (afterLines p s).sched.line := by
      rw [← hs]
      rcases p with _ | ⟨_ | _⟩ <;> rfl
    exact ⟨by rw [line, endStep_params, hm, afterLines_params]; exact bound, rfl, rfl⟩

/-- Settles O53: `Sound` is kept by every part of a turn, the rest of the invariant by the turn as a whole. -/
theorem stepKeepsInvariant : Obligations.StepKeepsInvariant := by
  intro s t h ht
  obtain ⟨hl, hf, hc⟩ := step_keeps_bookkeeping h.lineBound h.noneFetched h.noCycles ht
  exact (h.sound.step ht).inv hl hf hc

/-- Settles O54: after reset memory is empty and the program counters stand at bases of memories. -/
theorem resetInvariant : Obligations.ResetInvariant := by
  constructor <;> decide

end Sys2Proof.Machine
end

section
/-! What an instruction of one processor cannot reach. `InstructionFrames` (O46) and `UserModeConfined` (O35) follow. -/
namespace Sys2Proof.Machine

/-! ### The CPU's state under a unit -/

theorem riscClosed_cpu (u : Coproc) (c : Cpu) : RiscClosed u (fun s => s.cpu = c) where
  memRead _ _ h := (memRead_cpu ..).trans h
  memWrite _ _ _ h := (memWrite_cpu ..).trans h
  setRisc _ h _ := (State.setRisc_cpu ..).trans h
  setHidata _ h := h
  setAcc _ h := (State.setAcc_cpu ..).trans h
  addAcc _ h := (State.addAcc_cpu ..).trans h
  scratch _ _ h := h

/-- An instruction of a unit does not change the CPU (R20). -/
theorem exec_risc_cpu {u : Coproc} {i : Instr} {s t : State} (hi : i.role = .risc u) (h : exec i s = .next t) :
    t.cpu = s.cpu := by
  have := (riscClosed_cpu u s.cpu).exec i hi rfl
  rwa [h] at this

theorem exec_outside {i : Instr} {s t : State} (h : exec i s = .next t) : t.outside i.role = s.outside i.role := by
  have := exec_answers s i
  rwa [h] at this

/-- Settles O46: the fields of `State.outside`, which no instruction changes, and the CPU under a unit's. -/
theorem instructionFrames : Obligations.InstructionFrames := by
  refine ⟨fun i s t hi h => ?_, fun i u w s t hi hw h => ?_⟩
  · obtain ⟨hm, -, hs, hc, he, hy, hr⟩ := outside_eq_iff.mp (hi ▸ exec_outside h)
    have regs : ∀ u, t.unitRegs u = s.unitRegs u := fun u => hr u (by simp)
    refine ⟨fun u => ⟨congrArg UnitRegs.bank0 (regs u), congrArg UnitRegs.bank1 (regs u),
      congrArg UnitRegs.remain (regs u), he u, hy u⟩, ?_, ?_, hc, hs, hm⟩
    · exact BitVec.eq_of_toNat_eq (congrArg UnitRegs.acc (regs .gpu))
    · exact BitVec.eq_of_toNat_eq (congrArg UnitRegs.acc (regs .dsp))
  · obtain ⟨hm, -, hs, -, he, hy, hr⟩ := outside_eq_iff.mp (hi ▸ exec_outside h)
    have regs : t.unitRegs w = s.unitRegs w := hr w (by simpa using hw.symm)
    refine ⟨exec_risc_cpu hi h, congrArg UnitRegs.bank0 regs, congrArg UnitRegs.bank1 regs,
      congrArg UnitRegs.remain regs, he w, hy w, he u, hy u, ?_, ?_, hs, hm⟩
    · rintro rfl
      exact BitVec.eq_of_toNat_eq (congrArg UnitRegs.acc regs)
    · rintro rfl
      exact BitVec.eq_of_toNat_eq (congrArg UnitRegs.acc regs)

/-! ### User mode -/

/-- `t` is in user mode, with T, I, SSP and the run state of `s` (R24, R640). -/
structure Confined (s t : State) : Prop where
  user : t.cpu.sr.s = false
  trace : t.cpu.sr.t = s.cpu.sr.t
  mask : t.cpu.sr.i = s.cpu.sr.i
  ssp : t.cpu.ssp = s.cpu.ssp
  run : t.cpu.run = s.cpu.run

theorem Confined.of_cpu {s t w : State} (h : Confined s t) (hw : w.cpu = t.cpu) : Confined s w := by
  obtain ⟨hu, ht, hm, hs, hr⟩ := h
  exact ⟨hw ▸ hu, hw ▸ ht, hw ▸ hm, hw ▸ hs, hw ▸ hr⟩

/-- In user mode A7 is USP, so no write of an address register reaches SSP (R22). -/
theorem setAreg_ssp_of_user {s : State} (h : s.cpu.sr.s = false) (r : Fin 8) (v : Long) :
    (s.setAreg r v).cpu.ssp = s.cpu.ssp := by
  unfold State.setAreg
  split
  · rfl
  · rw [h]
    rfl

theorem cpuClosed_confined (s : State) : CpuClosed (Confined s) where
  memRead _ _ h := h.of_cpu (memRead_cpu ..)
  memWrite _ _ _ h := h.of_cpu (memWrite_cpu ..)
  setDreg _ _ h := ⟨h.user, h.trace, h.mask, h.ssp, h.run⟩
  setAreg r v h := ⟨by simpa using h.user, by simpa using h.trace, by simpa using h.mask,
    (setAreg_ssp_of_user h.user r v).trans h.ssp, by simpa using h.run⟩
  setUsp _ h := ⟨h.user, h.trace, h.mask, h.ssp, h.run⟩
  setPc _ h := ⟨h.user, h.trace, h.mask, h.ssp, h.run⟩
  setCcr _ h := ⟨h.user, h.trace, h.mask, h.ssp, h.run⟩
  record _ h := h.of_cpu rfl

/-- The CPU's new registers after an exception (R614). -/
theorem takeException_vector_cpu (v : Byte) (a : Long) (s : State) :
    let t := takeException (.vector v) a s
    t.cpu.sr = { s.cpu.sr with s := true, t := false } ∧ t.cpu.ssp = s.cpu.ssp - 6 ∧ t.cpu.run = .running := by
  rw [takeException_eq]
  exact ⟨rfl, rfl, rfl⟩

/-- Settles O35: of the three ways in which an instruction ends, the write of SR as a whole needs supervisor mode. -/
theorem userModeConfined : Obligations.UserModeConfined := by
  intro i s t hi hu h
  have ends := (cpuClosed_confined s).exec_ends i hi ⟨hu, rfl, rfl, rfl, rfl⟩
  rw [h] at ends
  cases ends with
  | done ht => exact ⟨ht.mask, .inl ⟨ht.user, ht.trace, ht.ssp, ht.run⟩⟩
  | exception v a hw =>
    obtain ⟨hsr, hssp, hrun⟩ := takeException_vector_cpu v a _
    rw [hsr, hssp, hrun]
    exact ⟨hw.mask, .inr ⟨rfl, rfl, by rw [hw.ssp], rfl⟩⟩
  | system hs => exact absurd hs (by simp [hu])

end Sys2Proof.Machine
end

section
/-! What reading and writing an operand answers and leaves as it was. `OperandAccess` (O9) follows. -/
namespace Sys2Proof.Machine

/-! ### The enabled flags of the lines under a read -/

/-- Raising a line changes its pending flag alone (R600). -/
theorem raiseLine_enabled (p q : Role) (k j : Nat) (s : State) :
    ((raiseLine p k s).line q j).enabled = (s.line q j).enabled := by
  rw [raiseLine, State.line_setLine]
  split
  next h => rw [h.1, h.2.1]
  next => rfl

/-- Every line is enabled in `t` as in `s`. -/
def SameEnabled (s t : State) : Prop := ∀ p k, (t.line p k).enabled = (s.line p k).enabled

theorem SameEnabled.trans {s t w : State} (h : SameEnabled s t) (g : SameEnabled t w) : SameEnabled s w :=
  fun p k => (g p k).trans (h p k)

theorem Same.sameEnabled {s t : State} (h : Same s t) : SameEnabled s t := fun p k => by rw [h.line]

theorem extRaises_sameEnabled (l : List (Role × Nat)) (s : State) : SameEnabled s (extRaises l s) := by
  induction l generalizing s with
  | nil => exact fun _ _ => rfl
  | cons c rest ih => exact .trans (fun q j => raiseLine_enabled c.1 q c.2 j s) (ih _)

theorem extCall_sameEnabled (c : ExtCall) (s : State) : SameEnabled s (extCall c s) := by
  unfold extCall
  split
  · exact fun _ _ => rfl
  · refine .trans (fun p k => ?_) (extRaises_sameEnabled _ _)
    rcases p with _ | ⟨_ | _⟩ <;> rfl

theorem regRead_sameEnabled (r : DevReg) (s : State) : SameEnabled s (regRead r s).2 := by
  cases r with
  | ext unit ua => exact extCall_sameEnabled _ s
  | _ => exact fun _ _ => rfl

theorem busRead_sameEnabled (sz : Size) (a : Nat) (s : State) : SameEnabled s (busRead sz a s).2 := by
  have device : ∀ b, SameEnabled s (deviceRead b sz a s).2 := fun b => by
    unfold deviceRead
    split
    · exact regRead_sameEnabled _ s
    · exact (regRead_sameEnabled _ s).trans (regRead_sameEnabled _ _)
  unfold busRead
  split
  · exact fun _ _ => rfl
  · split
    · split
      · exact fun _ _ => rfl
      · exact device _
    · exact fun _ _ => rfl

/-- A read, wherever it goes, leaves every enabled flag (R127, R132). -/
theorem memRead_sameEnabled (p : Role) (sz : Size) (a : Long) (s : State) :
    SameEnabled s (memRead p sz a s).2 := by
  cases sz <;> cases p
  case l.cpu => exact (busRead_sameEnabled .w _ s).trans (busRead_sameEnabled .w _ _)
  all_goals exact busRead_sameEnabled _ _ s

/-! ### The registers under the evaluation of a mode -/

/-- Evaluating a mode moves no address register but the one of postincrement and predecrement (R231). -/
theorem locEA_areg {ea : EA} {k : Fin 8} (h : ea ≠ .postinc k ∧ ea ≠ .predec k) (sz : Size) (s : State) :
    (locEA ea sz s).2.areg k = s.areg k := by
  obtain ⟨hi, hd⟩ := h
  cases ea with
  | postinc r => exact (State.areg_setAreg ..).trans (if_neg fun e : r = k => hi (e ▸ rfl))
  | predec r => exact (State.areg_setAreg ..).trans (if_neg fun e : r = k => hd (e ▸ rfl))
  | imm => cases sz <;> rfl
  | _ => rfl

/-- A mode that moves no register leaves both stack pointers (R231). -/
theorem locEA_stackPointers {ea : EA} (h : ∀ k, ea ≠ .postinc k ∧ ea ≠ .predec k) (sz : Size) (s : State) :
    (locEA ea sz s).2.cpu.usp = s.cpu.usp ∧ (locEA ea sz s).2.cpu.ssp = s.cpu.ssp := by
  cases ea with
  | postinc r => exact absurd rfl (h r).1
  | predec r => exact absurd rfl (h r).2
  | imm => cases sz <;> exact ⟨rfl, rfl⟩
  | _ => exact ⟨rfl, rfl⟩

/-! ### Source operands -/

theorem readEA_cpu_eq (ea : EA) (sz : Size) (s : State) :
    (readEA ea sz s).2.cpu = (locEA ea sz s).2.cpu := readLoc_cpu ..

theorem readEA_areg {ea : EA} {k : Fin 8} (h : ea ≠ .postinc k ∧ ea ≠ .predec k) (sz : Size) (s : State) :
    (readEA ea sz s).2.areg k = s.areg k :=
  (areg_of_cpu (readEA_cpu_eq ea sz s) k).trans (locEA_areg h sz s)

theorem readLoc_sameEnabled (l : Loc) (sz : Size) (s : State) : SameEnabled s (readLoc l sz s).2 := by
  cases l with
  | mem a => exact memRead_sameEnabled .cpu sz a s
  | dreg r | areg r | imm v => exact fun _ _ => rfl

theorem readEA_sameEnabled (ea : EA) (sz : Size) (s : State) : SameEnabled s (readEA ea sz s).2 :=
  (same_locEA ea sz s).sameEnabled.trans (readLoc_sameEnabled _ sz _)

/-- What reading a source operand leaves outside the CPU, whatever the devices (R127, R232). -/
theorem readEA_keeps (ea : EA) (sz : Size) (s : State) :
    (∀ u, (readEA ea sz s).2.risc u = s.risc u) ∧ (readEA ea sz s).2.sched = s.sched ∧
      (readEA ea sz s).2.vi = s.vi := by
  have hl := same_locEA ea sz s
  have hr := readLoc_readKeeps (locEA ea sz s).1 sz (locEA ea sz s).2
  exact ⟨fun u => (hr.risc u).trans (hl.risc u), hr.sched.trans hl.sched, hr.vi.trans hl.vi⟩

/-! ### Writes of a location -/

/-- An address register takes the sign-extended value (R236). -/
theorem writeLoc_areg_toInt (r : Fin 8) (sz : Size) (v : BitVec sz.bits) (s : State) :
    ((writeLoc (.areg r) sz v s).areg r).toInt = v.toInt := by
  have hw : sz.bits ≤ 32 := by cases sz <;> decide
  rw [writeLoc, State.areg_setAreg_self, BitVec.toInt_signExtend_of_le hw]

/-- Settles O9: a location is read and written by the accessor of its kind, and a mode's evaluation moves the CPU's
registers alone. -/
theorem operandAccess : Obligations.OperandAccess := by
  refine ⟨fun sz s => ⟨fun r => ⟨BitVec.toNat_setWidth .., rfl⟩, fun r => ⟨BitVec.toNat_setWidth .., rfl⟩,
    fun a => rfl, fun v => ⟨BitVec.toNat_setWidth .., rfl⟩, fun ea => rfl⟩, fun ea sz s => ?_, fun sz v s => ⟨fun r => ?_,
    fun r => ?_, fun a => ⟨rfl, memWrite_cpu ..⟩⟩⟩
  · obtain ⟨hd, hsr, hrun, hcycles⟩ := readEA_cpu ea sz s
    obtain ⟨hrisc, hsched, hvi⟩ := readEA_keeps ea sz s
    refine ⟨hd, hsr, hrun, hcycles, fun k hk => readEA_areg hk sz s, fun h => ?_, hrisc, hsched, hvi,
      readEA_sameEnabled ea sz s, fun hdev => ?_⟩
    · rw [readEA_cpu_eq]
      exact locEA_stackPointers h sz s
    · have same := same_readEA hdev ea sz
      exact ⟨fun a => by rw [same.mem], same.ext, same.gpu, same.dsp, same.cpuLines⟩
  · refine ⟨State.dregAt_setDregAt_self .., setDregAt_keepsHigh .., ?_, fun k hk => ?_⟩
    · simp [writeLoc, OnlyDreg, State.setDregAt]
    · exact State.dreg_setDreg_ne s _ hk.symm
  · refine ⟨writeLoc_areg_toInt .., onlyAreg_setAreg .., fun k hk => ?_⟩
    exact (State.areg_setAreg ..).trans (if_neg hk.symm)

end Sys2Proof.Machine
end

section
/-! The units' results with flags, products, accumulators and quotients. `RiscMultiplyDivide` (O37) and
`MatrixMultiply` (O45) follow. -/
namespace Sys2Proof.Machine

/-! ### A unit's register and flags after a write -/

section
variable (u : Coproc) (n : Fin 32) (v : Long) (s : State)

@[simp] theorem State.setZNC_z (z k c : Bool) : ((s.setZNC u z k c).risc u).z = z := by simp [State.setZNC]
@[simp] theorem State.setZNC_n (z k c : Bool) : ((s.setZNC u z k c).risc u).n = k := by simp [State.setZNC]
@[simp] theorem State.setZNC_c (z k c : Bool) : ((s.setZNC u z k c).risc u).c = c := by simp [State.setZNC]

/-- Writing Z and N writes the three flags, C as it was. -/
theorem setZN_eq_setZNC (z k : Bool) : s.setZN u z k = s.setZNC u z k (s.risc u).c := by cases u <;> rfl

@[simp] theorem State.setRreg_c : ((s.setRreg u n v).risc u).c = (s.risc u).c := by
  unfold State.setRreg
  split <;> simp [State.setBank0, State.setBank1]

@[simp] theorem State.setRreg_rreg_self : s.setRreg u n (s.rreg u n) = s := by
  have same : ∀ r, r = s.risc u → s.setRisc u r = s := fun r h => h ▸ State.setRisc_self s u
  unfold State.setRreg State.rreg
  split
  · exact same _ (by simp)
  · exact same _ (by simp)

theorem onlyRreg_setRreg : OnlyRreg u n s (s.setRreg u n v) := by simp [OnlyRreg]

theorem onlyRregFlags_setZNC (z k c : Bool) : OnlyRregFlags u n s ((s.setRreg u n v).setZNC u z k c) := by
  simp [OnlyRregFlags]

theorem riscFlags_setZNC (c : Bool) : RiscFlags u v c (s.setZNC u (v == 0) v.msb c) := by
  refine ⟨?_, ?_, by simp⟩
  · rw [State.setZNC_z, beq_iff_eq]
    exact ⟨fun h => h ▸ rfl, fun h => BitVec.eq_of_toNat_eq h⟩
  · rw [State.setZNC_n, BitVec.msb_eq_decide, decide_eq_true_iff]

/-- `R[n] <- r; SetZN(r)`: the register, Z and N of it, C kept, nothing else (R400). -/
theorem writeZN_effect : (writeZN u n v s).rreg u n = v ∧
    RiscFlags u ((writeZN u n v s).rreg u n) (s.risc u).c (writeZN u n v s) ∧ OnlyRregFlags u n s (writeZN u n v s) := by
  have h : writeZN u n v s = (s.setRreg u n v).setZNC u (v == 0) v.msb (s.risc u).c := by
    rw [writeZN, setZNof, setZN_eq_setZNC, State.setRreg_c]
  have hr : (writeZN u n v s).rreg u n = v := by rw [h]; simp
  rw [hr, h]
  exact ⟨rfl, riscFlags_setZNC u v _ _, onlyRregFlags_setZNC u n v s _ _ _⟩

/-- A write of a register and one of REMAIN commute (R30, R41). -/
theorem setRreg_setRemain (q : Long) :
    (s.setRreg u n v).setRisc u { (s.setRreg u n v).risc u with remain := q } =
      (s.setRisc u { s.risc u with remain := q }).setRreg u n v := by
  have active : (s.setRisc u { s.risc u with remain := q }).bank1Active u = s.bank1Active u := by
    simp [State.bank1Active_eq]
  unfold State.setRreg
  rw [active]
  split <;> simp [State.setBank0, State.setBank1]

end

/-! ### Products and accumulators -/

theorem s16_bounds (v : Long) : -2 ^ 15 ≤ s16 v ∧ s16 v < 2 ^ 15 :=
  ⟨BitVec.le_toInt _, BitVec.toInt_lt⟩

/-- The product of two low halves is a signed value of 32 bits (R418). -/
theorem s16_mul_bounds (a b : Long) : -2 ^ 31 ≤ s16 a * s16 b ∧ s16 a * s16 b < 2 ^ 31 := by
  obtain ⟨ha, ha'⟩ := s16_bounds a
  obtain ⟨hb, hb'⟩ := s16_bounds b
  constructor <;> nlinarith

/-- The product at a width that holds it. -/
theorem toInt_ofInt_s16_mul {w : Nat} (hw : 32 ≤ w) (a b : Long) :
    (BitVec.ofInt w (s16 a * s16 b)).toInt = s16 a * s16 b := by
  obtain ⟨h, h'⟩ := s16_mul_bounds a b
  have hp : (2 : Int) ^ 31 ≤ 2 ^ (w - 1) := pow_le_pow_right₀ (by norm_num) (by omega)
  exact BitVec.toInt_ofInt_eq_self (by omega) (by omega) (by omega)

theorem toNat_mul_low (a b : Long) :
    (BitVec.ofNat 32 ((a.setWidth 16).toNat * (b.setWidth 16).toNat)).toNat =
      a.toNat % 2 ^ 16 * (b.toNat % 2 ^ 16) := by
  rw [BitVec.toNat_ofNat, BitVec.toNat_setWidth, BitVec.toNat_setWidth]
  refine Nat.mod_eq_of_lt (Nat.lt_of_lt_of_le (Nat.mul_lt_mul'' (Nat.mod_lt _ ?_) (Nat.mod_lt _ ?_)) ?_) <;> norm_num

/-- An accumulator of `w` bits after a sum, modulo `2^w` (R42, R421). -/
theorem toInt_add_ofInt_emod {w : Nat} (x : BitVec w) (p : Int) :
    ((x + BitVec.ofInt w p).toInt - (x.toInt + p)) % 2 ^ w = 0 := by
  have h : (x + BitVec.ofInt w p).toInt % (2 ^ w : Nat) = (x.toInt + p) % (2 ^ w : Nat) := by
    rw [BitVec.toInt_add, BitVec.toInt_ofInt, Int.bmod_emod, Int.add_emod, Int.bmod_emod, ← Int.add_emod]
  exact_mod_cast Int.emod_eq_emod_iff_emod_sub_eq_zero.mp h

/-! ### The absolute value -/

/-- The absolute value of a long that is not the least one (R423). -/
theorem toNat_ofNat_natAbs {v : Long} (h : v ≠ 0x80000000) : (BitVec.ofNat 32 v.toInt.natAbs).toNat = v.toInt.natAbs := by
  have hv := v.isLt
  have hne : v.toNat ≠ 2 ^ 31 := fun e => h (BitVec.eq_of_toNat_eq e)
  have habs : v.toInt.natAbs < 2 ^ 32 := by
    rw [BitVec.toInt_eq_toNat_cond]
    split <;> omega
  rw [BitVec.toNat_ofNat, Nat.mod_eq_of_lt habs]

theorem natAbs_toInt_eq_zero {v : Long} : v.toInt.natAbs = 0 ↔ v.toNat = 0 := by
  have hv := v.isLt
  rw [BitVec.toInt_eq_toNat_cond]
  split <;> omega

theorem execRAbs_effect (u : Coproc) (n : Fin 32) (s : State) : ∃ t, execRAbs u n s = .next t ∧
    OnlyRregFlags u n s t ∧ ((t.risc u).c = true ↔ (s.rreg u n).toInt < 0) ∧
    (t.rreg u n).toNat = (s.rreg u n).toInt.natAbs ∧ ((t.risc u).z = true ↔ (s.rreg u n).toNat = 0) ∧
    ((t.risc u).n = true ↔ (s.rreg u n).toNat = 2 ^ 31) := by
  simp only [execRAbs]
  split
  next h =>
    have only := onlyRregFlags_setZNC u n (s.rreg u n) s false true (s.rreg u n).msb
    rw [State.setRreg_rreg_self] at only
    exact ⟨_, rfl, only, by simp [h]; rfl, by simp [h], by simp [h], by simp [h]⟩
  next h =>
    have hne : (s.rreg u n).toNat ≠ 2 ^ 31 := fun e => h (BitVec.eq_of_toNat_eq e)
    refine ⟨_, rfl, onlyRregFlags_setZNC .., by simp [BitVec.msb_eq_toInt], ?_, ?_, by simpa using hne⟩
    · simpa using toNat_ofNat_natAbs h
    · rw [State.setZNC_z, beq_iff_eq, ← BitVec.toNat_inj, toNat_ofNat_natAbs h]
      exact natAbs_toInt_eq_zero

/-! ### The quotient -/

/-- Quotient and remainder of a divisor that is not zero (R424). -/
theorem riscDivide_spec (fixedPoint : Bool) (a b : Long) (hb : b.toNat ≠ 0) :
    let d := if fixedPoint then a.toNat * 2 ^ 16 else a.toNat
    (riscDivide fixedPoint a b).1.toNat = d / b.toNat % 2 ^ 32 ∧ (riscDivide fixedPoint a b).2.toNat = d % b.toNat := by
  intro d
  have hlt : d % b.toNat < 2 ^ 32 := (Nat.mod_lt _ (Nat.pos_of_ne_zero hb)).trans b.isLt
  exact ⟨BitVec.toNat_ofNat .., (BitVec.toNat_ofNat ..).trans (Nat.mod_eq_of_lt hlt)⟩

theorem execRDiv_effect (u : Coproc) (m n : Fin 32) (s : State) :
    let a := (s.rreg u n).toNat
    let b := (s.rreg u m).toNat
    let d := if (s.risc u).divOffset then a * 2 ^ 16 else a
    ∃ t, execRDiv u m n s = .next t ∧
      (b = 0 → t.rreg u n = 0xFFFFFFFF ∧ OnlyRreg u n s t) ∧
      (b ≠ 0 → ∃ q, d = q * b + (t.risc u).remain.toNat ∧ (t.risc u).remain.toNat < b ∧
        (t.rreg u n).toNat = q % 2 ^ 32 ∧
        t = (s.setRisc u { s.risc u with remain := (t.risc u).remain }).setRreg u n (t.rreg u n)) := by
  intro a b d
  simp only [execRDiv]
  split
  next h =>
    have hb : b = 0 := congrArg BitVec.toNat h
    exact ⟨_, rfl, fun _ => ⟨by simp, onlyRreg_setRreg ..⟩, fun hne => absurd hb hne⟩
  next h =>
    have hb : b ≠ 0 := fun e => h (BitVec.eq_of_toNat_eq e)
    obtain ⟨hq, hr⟩ := riscDivide_spec (s.risc u).divOffset (s.rreg u n) (s.rreg u m) hb
    refine ⟨_, rfl, fun e => absurd e hb, fun _ => ⟨d / b, ?_, ?_, ?_, ?_⟩⟩
    · rw [State.setRisc_risc, hr]
      exact (Nat.div_add_mod' d b).symm
    · rw [State.setRisc_risc, hr]
      exact Nat.mod_lt _ (Nat.pos_of_ne_zero hb)
    · rw [setRreg_setRemain, State.rreg_setRreg_self, hq]
    · simp only [State.setRisc_risc]
      rw [setRreg_setRemain, State.rreg_setRreg_self]

/-! ### The accumulator -/

/-- `t` is `s` but for the accumulator of a unit (R42). -/
def OnlyAcc (u : Coproc) (s t : State) : Prop :=
  t = { s with gpu := { s.gpu with acc := t.gpu.acc }, dsp := { s.dsp with acc := t.dsp.acc } } ∧
    (u = .gpu → t.dsp = s.dsp) ∧ (u = .dsp → t.gpu = s.gpu)

theorem onlyAcc_setAcc (u : Coproc) (x : Int) (s : State) : OnlyAcc u s (s.setAcc u x) := by
  cases u <;> exact ⟨rfl, by simp [State.setAcc], by simp [State.setAcc]⟩

theorem onlyAcc_addAcc (u : Coproc) (x : Int) (s : State) : OnlyAcc u s (s.addAcc u x) := by
  cases u <;> exact ⟨rfl, by simp [State.addAcc], by simp [State.addAcc]⟩

/-- A write of the accumulator and one of Z and N commute. -/
theorem setZN_setAcc (u : Coproc) (x : Int) (z k : Bool) (s : State) :
    (s.setAcc u x).setZN u z k = (s.setZNC u z k (s.risc u).c).setAcc u x := by
  cases u <;> rfl

theorem setAcc_risc (u : Coproc) (x : Int) (s : State) : (s.setAcc u x).risc u = s.risc u := by cases u <;> rfl

theorem setRreg_accLow_dsp (n : Fin 32) (s : State) :
    ((s.setRreg .dsp n (s.accLow .dsp)).rreg .dsp n).toNat = s.dsp.acc.toNat % 2 ^ 32 := by
  simp [State.accLow]

/-- Settles O37: each instruction is a write of a register with its flags, or of the accumulator, whose value is the
exact integer narrowed to a width that holds it. -/
theorem riscMultiplyDivide : Obligations.RiscMultiplyDivide := by
  refine ⟨fun u m n s => ?_, fun u m n s => execRDiv_effect u m n s⟩
  intro a b p zn onlyAcc
  have product : ∀ {w : Nat}, 32 ≤ w → (BitVec.ofInt w p).toInt = p := fun hw => toInt_ofInt_s16_mul hw a b
  refine ⟨?_, ?_, ?_, ?_, ?_, execRAbs_effect u n s⟩
  · obtain ⟨hr, hf, ho⟩ := writeZN_effect u n
      (BitVec.ofNat 32 ((a.setWidth 16).toNat * (b.setWidth 16).toNat)) s
    exact ⟨_, rfl, (congrArg BitVec.toNat hr).trans (toNat_mul_low a b), hf, ho⟩
  · obtain ⟨hr, hf, ho⟩ := writeZN_effect u n (BitVec.ofInt 32 p) s
    exact ⟨_, rfl, (congrArg BitVec.toInt hr).trans (product le_rfl), hf, ho⟩
  · refine ⟨((s.setAcc u p).setZN u (BitVec.ofInt 32 p == 0) (BitVec.ofInt 32 p).msb), rfl, ?_⟩
    rw [setZN_setAcc]
    simp only [setAcc_risc, State.setZNC_z, State.setZNC_n, State.setZNC_c]
    refine ⟨?_, ?_, ?_, ?_, trivial, onlyAcc_setAcc ..⟩
    · rintro rfl
      exact product le_rfl
    · rintro rfl
      exact product (by norm_num)
    · rw [beq_iff_eq, ← BitVec.toInt_inj, product le_rfl]
      rfl
    · rw [BitVec.msb_eq_toInt, product le_rfl, decide_eq_true_iff]
  · refine ⟨_, rfl, onlyAcc_addAcc .., ?_, ?_⟩
    · rintro rfl
      exact toInt_add_ofInt_emod s.gpu.acc p
    · rintro rfl
      exact toInt_add_ofInt_emod s.dsp.acc p
  · refine ⟨_, rfl, onlyRreg_setRreg .., ?_, ?_⟩
    · rintro rfl
      exact State.rreg_setRreg_self ..
    · rintro rfl
      exact setRreg_accLow_dsp n s

/-! ### The matrix product -/

theorem mmultElement_eq (u : Coproc) (m : Fin 32) (i : Nat) (s : State) :
    mmultElement u m i s = ((s.altReg u (Fin.ofNat 32 (m.val + i / 2))).extractLsb' (16 * (i % 2)) 16).toInt := by
  have index : m + Fin.ofNat 32 (i / 2) = Fin.ofNat 32 (m.val + i / 2) := by
    apply Fin.ext
    simp [Fin.val_add]
  simp only [mmultElement, s16, index]
  generalize s.altReg u (Fin.ofNat 32 (m.val + i / 2)) = g
  rcases Nat.mod_two_eq_zero_or_one i with h | h <;> simp only [h, zero_ne_one, if_true, if_false] <;> rfl

/-- The loop of MMULT with the default devices, whose reads change nothing: the sum of the products (R505). -/
theorem mmultLoop_eq {s : State} (h : s.defaultDevices) (u : Coproc) (m : Fin 32) (stride left i addr : Nat)
    (acc : Int) :
    mmultLoop u m (BitVec.ofNat 32 stride) left i (BitVec.ofNat 32 addr) acc s =
      (acc + ((List.range left).map fun k => mmultElement u m (i + k) s *
        s16 (memRead (.risc u) .l (BitVec.ofNat 32 (addr + k * stride)) s).1).sum, s) := by
  induction left generalizing i addr acc with
  | zero => simp [mmultLoop]
  | succ left ih =>
    have hs : (readLong (.risc u) (BitVec.ofNat 32 addr) s).2 = s := memRead_state _ _ _ s h
    simp only [mmultLoop, hs]
    rw [← BitVec.ofNat_add, ih, List.range_succ_eq_map]
    simp only [List.map_cons, List.map_map, List.sum_cons, Function.comp_def, Nat.succ_eq_add_one]
    refine Prod.ext ?_ rfl
    have index : ∀ k, i + 1 + k = i + (k + 1) := fun k => by omega
    have address : ∀ k, addr + stride + k * stride = addr + (k + 1) * stride := fun k => by ring
    simp only [index, address, Nat.zero_mul, Nat.add_zero, add_assoc]
    rfl

/-- The address of the matrix (R37, R505). -/
theorem mmultBase_eq (u : Coproc) (x : BitVec 10) :
    BitVec.ofNat 32 (Config.localBase u) + (x ++ 0#2).setWidth 32 =
      BitVec.ofNat 32 (Config.localBase u + 4 * x.toNat) := by
  have hx := x.isLt
  have e : (x ++ 0#2).toNat = 4 * x.toNat := by
    rw [toNat_append_eq]
    simp [Nat.mul_comm]
  apply BitVec.eq_of_toNat_eq
  simp only [BitVec.toNat_add, BitVec.toNat_ofNat, BitVec.toNat_setWidth, e]
  omega

/-- Settles O45: the loop is the sum, and its result a write of a register with its flags. -/
theorem matrixMultiply : Obligations.MatrixMultiply := by
  intro u m n s h w stride element entry
  have loop := mmultLoop_eq h u m stride w 0 (Config.localBase u + 4 * (s.risc u).mtxa.toNat) 0
  rw [← mmultBase_eq] at loop
  obtain ⟨hr, hf, ho⟩ := writeZN_effect u n (BitVec.ofInt 32 ((List.range w).map fun i => element i * entry i).sum) s
  have hexec : exec (.rMmult u m n) s =
      .next (writeZN u n (BitVec.ofInt 32 ((List.range w).map fun i => element i * entry i).sum) s) := by
    show execRMmult u m n s = _
    simp only [execRMmult, stride, w] at loop ⊢
    rw [loop]
    simp only [zero_add, mmultElement_eq]
    rfl
  refine ⟨_, hexec, hf, ho, ?_⟩
  rw [hr, BitVec.toNat_ofInt, Int.toNat_of_nonneg (Int.emod_nonneg _ (by norm_num))]
  rfl

end Sys2Proof.Machine
end

section
/-! Accesses to the device regions: an access within a unit is one call of the register's function, a long of a region of
units of two bytes is two (R109). -/
namespace Sys2Proof.Machine

/-! ### Regions of devices -/

theorem regionAt_mem {a : Nat} {g : Region} (h : regionAt a = some g) : g ∈ regions := List.mem_of_find?_eq_some h

/-- Every region lies within the bus's 24 bits (R101, R110). -/
theorem regionAt_lt {a : Nat} {g : Region} (h : regionAt a = some g) : a < 0x1000000 := by
  have bound : ∀ g ∈ regions, g.stop ≤ 0x1000000 := by decide
  have inside : g.contains a = true := List.find?_some (p := fun g : Region => g.contains a) h
  have := bound g (regionAt_mem h)
  simp only [Region.contains, Bool.and_eq_true, decide_eq_true_eq] at inside
  omega

theorem ne_bytes_of_unit {b : Backing} (h : 2 ≤ b.unit) : b ≠ .bytes := by
  rintro rfl
  exact absurd h (by decide)

section
variable {a : Nat} {g : Region} (hg : regionAt a = some g) (hb : g.backing ≠ .bytes) (sz : Size) (s : State)
include hg hb

/-- A region that is not a byte array can be read: its device answers (R105, R109). -/
theorem busRead_device : busRead sz a s = deviceRead g.backing sz a s := by
  have readable : ∀ g ∈ regions, g.readable = true := by decide
  simp only [busRead, hg, readable g (regionAt_mem hg), if_true]

/-- A region that is not a byte array can be written (R105, R109). -/
theorem busWrite_device (v : BitVec sz.bits) : busWrite sz a v s = deviceWrite g.backing sz a v s := by
  have writable : ∀ g ∈ regions, g.backing ≠ .bytes → g.writable = true := by decide
  simp only [busWrite, hg, writable g (regionAt_mem hg) hb, if_true]

end

/-! ### Values of registers -/

@[simp] theorem regRead_fst (r : DevReg) (s : State) : (regRead r s).1 = regValue r s := by cases r <;> rfl

theorem regRead_of_ne_ext {r : DevReg} (h : ∀ unit ua, r ≠ .ext unit ua) (s : State) :
    regRead r s = (regValue r s, s) := by
  cases r with
  | ext unit ua => exact absurd rfl (h unit ua)
  | _ => rfl

/-- Only INT1 has a merge base of its own (R52, R109). -/
theorem mergeBase_eq {r : DevReg} (h : r ≠ .int1) (s : State) : mergeBase r s = regValue r s := by
  cases r with
  | int1 => exact absurd rfl h
  | _ => rfl

/-- Bit `i` of a flag's value. -/
@[simp] theorem getLsbD_bitAt (b : Bool) (k i : Nat) :
    (bitAt b k).getLsbD i = (b && decide (i = k) && decide (i < 32)) := by
  cases b
  · simp [bitAt]
  · by_cases h : i = k
    · subst h
      simp [bitAt]
    · simp only [bitAt, if_true, BitVec.getLsbD_shiftLeft, BitVec.getLsbD_one]
      simp [h]
      omega

/-- A register that does not exist at a line's number has its flags clear (R603). -/
theorem line_of_ge {s : State} {p : Role} {k : Nat} (h : lineCount p ≤ k) : s.line p k = noLine := by
  rcases p with _ | ⟨_ | _⟩ <;> exact dif_neg (Nat.not_lt.mpr h)

/-- The five lines of the CPU as bits 4:0. -/
theorem getLsbD_cpuLineBits (f : Nat → Bool) (i : Nat) (h : ∀ k, 5 ≤ k → f k = false) :
    (bitAt (f 0) 0 ||| bitAt (f 1) 1 ||| bitAt (f 2) 2 ||| bitAt (f 3) 3 ||| bitAt (f 4) 4).getLsbD i = f i := by
  simp only [BitVec.getLsbD_or, getLsbD_bitAt]
  by_cases hi : i < 5
  · interval_cases i <;> simp
  · rw [h i (by omega)]
    have : i ≠ 0 ∧ i ≠ 1 ∧ i ≠ 2 ∧ i ≠ 3 ∧ i ≠ 4 := by omega
    simp [this]

theorem getLsbD_int1Pending (s : State) (i : Nat) : (int1Pending s).getLsbD i = (s.line .cpu i).pending :=
  getLsbD_cpuLineBits (fun k => (s.line .cpu k).pending) i fun k hk => by rw [line_of_ge (p := .cpu) hk]; rfl

theorem getLsbD_int1Enabled (s : State) (i : Nat) : (int1Enabled s).getLsbD i = (s.line .cpu i).enabled :=
  getLsbD_cpuLineBits (fun k => (s.line .cpu k).enabled) i fun k hk => by rw [line_of_ge (p := .cpu) hk]; rfl

theorem toNat_lt_of_getLsbD {v : Long} {n : Nat} (h : ∀ i, n ≤ i → v.getLsbD i = false) : v.toNat < 2 ^ n :=
  Nat.lt_pow_two_of_testBit _ fun i hi => by rw [BitVec.testBit_toNat]; exact h i hi

theorem extValue_two_lt (ua : Nat) (s : State) : (extValue 2 ua s).toNat < 2 ^ 16 := by
  unfold extValue
  split
  · simp only [ExtState.unitAt, if_true, BitVec.toNat_setWidth]
    have := (s.ext.units.read16 ua).isLt
    omega
  · simp only [atUnit, if_true, BitVec.toNat_and]
    exact Nat.and_lt_two_pow _ (by decide)

/-- A register of two bytes is one of three (R120). -/
theorem devRegAt_two {b : Backing} (h : b.unit = 2) (ua : Nat) :
    devRegAt b ua = .vi ∨ devRegAt b ua = .int1 ∨ devRegAt b ua = .ext 2 ua := by
  cases b with
  | tomRegs =>
    simp only [devRegAt]
    split
    · exact .inl rfl
    · split
      · exact .inr (.inl rfl)
      · exact .inr (.inr rfl)
  | ext unit =>
    obtain rfl : unit = 2 := h
    exact .inr (.inr rfl)
  | bytes | ctrl u => cases h

theorem devRegAt_four {b : Backing} (h : b.unit = 4) (ua : Nat) : devRegAt b ua ≠ .int1 := by
  cases b with
  | ctrl u =>
    simp only [devRegAt, ctrlReg]
    split <;> simp
  | ext unit => simp [devRegAt]
  | bytes | tomRegs => cases h

/-- The value of a register of two bytes, and its merge base, have 16 bits. -/
theorem regValue_two_lt {b : Backing} (h : b.unit = 2) (ua : Nat) (s : State) :
    (regValue (devRegAt b ua) s).toNat < 2 ^ 16 ∧ (mergeBase (devRegAt b ua) s).toNat < 2 ^ 16 := by
  have vi : (s.vi.setWidth 32).toNat < 2 ^ 16 := by
    have := s.vi.isLt
    rw [BitVec.toNat_setWidth]
    omega
  have high : ∀ k, 16 ≤ k → s.line .cpu k = noLine := fun k hk => line_of_ge (le_trans (by decide) hk)
  rcases devRegAt_two h ua with e | e | e <;> rw [e]
  · exact ⟨vi, vi⟩
  · exact ⟨toNat_lt_of_getLsbD fun i hi => by rw [regValue, getLsbD_int1Pending, high i hi]; rfl,
      toNat_lt_of_getLsbD fun i hi => by rw [mergeBase, getLsbD_int1Enabled, high i hi]; rfl⟩
  · exact ⟨extValue_two_lt ua s, extValue_two_lt ua s⟩

/-! ### The bytes of a unit -/

/-- Bit `i` of a unit with the bytes of an access replaced (R109). -/
theorem getLsbD_mergeInto (unit : Nat) (sz : Size) (x : Nat) (base : Long) (v : BitVec sz.bits) {i : Nat} (hi : i < 32) :
    (mergeInto unit sz x base v).getLsbD i =
      if unitShift unit sz x ≤ i ∧ i < unitShift unit sz x + sz.bits then v.getLsbD (i - unitShift unit sz x)
      else base.getLsbD i := by
  have hbits : sz.bits ≤ 32 := by cases sz <;> decide
  have hv : ∀ j, sz.bits ≤ j → v.getLsbD j = false := fun j hj => BitVec.getLsbD_of_ge v j hj
  simp only [mergeInto, BitVec.getLsbD_or, BitVec.getLsbD_and, BitVec.getLsbD_not, BitVec.getLsbD_shiftLeft,
    BitVec.getLsbD_setWidth, BitVec.getLsbD_allOnes, hi, decide_true, Bool.true_and]
  generalize unitShift unit sz x = sh
  by_cases h1 : i < sh
  · have : ¬ sh ≤ i := by omega
    simp [h1, this]
  · have h2 : sh ≤ i := by omega
    by_cases h3 : i < sh + sz.bits
    · have h4 : i - sh < 32 := by omega
      have h5 : i - sh < sz.bits := by omega
      simp [h1, h2, h3, h4, h5]
    · have h5 : ¬ i - sh < sz.bits := by omega
      simp [h1, h3, h5, hv (i - sh) (by omega)]

/-- What `BytesReplaced` says in bits: the byte formula is the merge of R109. -/
theorem mergeInto_eq {unit off x : Nat} {sz : Size} {base m : Long} {v : BitVec sz.bits} (hx : x % unit = off)
    (hfit : off + sz.bytes ≤ unit) (h : BytesReplaced unit sz.bytes off v.toNat base.toNat m.toNat) :
    mergeInto unit sz x base v = m := by
  have hsh : unitShift unit sz x = 8 * (unit - off - sz.bytes) := by rw [unitShift, hx]
  have hbits : sz.bits = 8 * sz.bytes := by cases sz <;> rfl
  have hpow : ∀ n, 256 ^ n = 2 ^ (8 * n) := fun n => by rw [pow_mul]; norm_num
  simp only [BytesReplaced, hpow, ← pow_add, ← hbits, ← hsh] at h
  generalize hgen : unitShift unit sz x = sh at h
  have hlow : base.toNat % 2 ^ sh < 2 ^ sh := Nat.mod_lt _ (Nat.two_pow_pos _)
  have hmid : 2 ^ sh * v.toNat + base.toNat % 2 ^ sh < 2 ^ (sh + sz.bits) := by
    rw [pow_add]
    calc 2 ^ sh * v.toNat + base.toNat % 2 ^ sh < 2 ^ sh * (v.toNat + 1) := by rw [Nat.mul_add]; omega
      _ ≤ 2 ^ sh * 2 ^ sz.bits := Nat.mul_le_mul_left _ v.isLt
  have hm : m.toNat = 2 ^ (sh + sz.bits) * (base.toNat / 2 ^ (sh + sz.bits)) +
      (2 ^ sh * v.toNat + base.toNat % 2 ^ sh) := by rw [h]; ring
  apply BitVec.eq_of_getLsbD_eq
  intro i hi
  rw [getLsbD_mergeInto _ _ _ _ _ hi, hgen, ← BitVec.testBit_toNat m, hm, Nat.testBit_two_pow_mul_add _ hmid,
    Nat.testBit_two_pow_mul_add _ hlow, Nat.testBit_mod_two_pow, Nat.testBit_div_two_pow]
  by_cases h1 : i < sh
  · have h2 : i < sh + sz.bits := by omega
    have h3 : ¬ sh ≤ i := by omega
    simp [h1, h2, h3, BitVec.testBit_toNat]
  · by_cases h2 : i < sh + sz.bits
    · have h3 : sh ≤ i := by omega
      simp [h1, h2, h3, BitVec.testBit_toNat]
    · have h3 : i - (sh + sz.bits) + (sh + sz.bits) = i := by omega
      simp [h2, h3, BitVec.testBit_toNat]

/-- A write of a whole unit leaves nothing of what was there. -/
theorem bytesReplaced_whole {unit v old : Nat} (h : old < 256 ^ unit) : BytesReplaced unit unit 0 v old v := by
  simp [BytesReplaced, Nat.div_eq_of_lt h, Nat.mod_one]

/-! ### Accesses within a unit -/

/-- An access at `a + o`, where `a` is the unit's address, `o` the byte it starts at. -/
structure InUnit (g : Region) (unit : Nat) (sz : Size) (a o : Nat) : Prop where
  region : regionAt a = some g
  unit_eq : g.backing.unit = unit
  le_two : 2 ≤ unit
  dvd_four : 4 % unit = 0
  aligned : a % unit = 0
  fits : o + sz.bytes ≤ unit

namespace InUnit
variable {g : Region} {unit : Nat} {sz : Size} {a o : Nat} (h : InUnit g unit sz a o)
include h

theorem unit_le : unit ≤ 4 := by
  have := h.dvd_four
  by_contra hlt
  rw [Nat.mod_eq_of_lt (by omega)] at this
  omega

theorem unit_cases : unit = 2 ∨ unit = 4 := by
  have h2 := h.le_two
  have h4 := h.unit_le
  have hd := h.dvd_four
  interval_cases unit
  · exact .inl rfl
  · cases hd
  · exact .inr rfl

theorem offset : (a + o) % unit = o := by
  have hb : 1 ≤ sz.bytes := by cases sz <;> decide
  have hf := h.fits
  rw [Nat.add_mod, h.aligned, Nat.zero_add, Nat.mod_mod, Nat.mod_eq_of_lt (by omega)]

theorem regionAt_eq : regionAt (a + o) = some g := by
  rw [← h.region]
  refine regionAt_congr ?_
  have hb : 1 ≤ sz.bytes := by cases sz <;> decide
  have hf := h.fits
  have ha := h.aligned
  rcases h.unit_cases with rfl | rfl <;> omega

theorem busRead (s : State) : busRead sz (a + o) s =
    ((regValue (devRegAt g.backing a) s >>> (8 * (unit - o - sz.bytes))).setWidth sz.bits,
      (regRead (devRegAt g.backing a) s).2) := by
  have hw : sz.bytes ≤ unit := le_trans (Nat.le_add_left ..) h.fits
  rw [busRead_device h.regionAt_eq (ne_bytes_of_unit (h.unit_eq ▸ h.le_two)), deviceRead, h.unit_eq, if_pos hw,
    h.offset, Nat.add_sub_cancel, unitShift, h.offset]
  simp only [regRead_fst]

theorem busWrite (v : BitVec sz.bits) (s : State) : busWrite sz (a + o) v s =
    regWrite (devRegAt g.backing a) (mergeInto unit sz (a + o) (mergeBase (devRegAt g.backing a) s) v) s := by
  have hw : sz.bytes ≤ unit := le_trans (Nat.le_add_left ..) h.fits
  rw [busWrite_device h.regionAt_eq (ne_bytes_of_unit (h.unit_eq ▸ h.le_two)), deviceWrite, h.unit_eq, if_pos hw,
    h.offset, Nat.add_sub_cancel]

/-- A write given by the bytes it replaces. -/
theorem busWrite_eq {v : BitVec sz.bits} {s : State} {m : Long}
    (hm : BytesReplaced unit sz.bytes o v.toNat (mergeBase (devRegAt g.backing a) s).toNat m.toNat) :
    Machine.busWrite sz (a + o) v s = regWrite (devRegAt g.backing a) m s := by
  rw [h.busWrite, mergeInto_eq h.offset h.fits hm]

end InUnit

/-! ### Accesses of the processors -/

/-- An access that is one bus access: all but a long of the CPU. -/
def OneAccess (p : Role) (sz : Size) : Prop := sz = .l → p ≠ .cpu

theorem memRead_one {p : Role} {sz : Size} (h : OneAccess p sz) (a : Long) (s : State) :
    memRead p sz a s = busRead sz (alignedAddr sz a) s := by
  cases sz with
  | b => rfl
  | w => rfl
  | l =>
    cases p with
    | cpu => exact absurd rfl (h rfl)
    | risc u => rfl

theorem memWrite_one {p : Role} {sz : Size} (h : OneAccess p sz) (a : Long) (v : BitVec sz.bits) (s : State) :
    memWrite p sz a v s = busWrite sz (alignedAddr sz a) v s := by
  cases sz with
  | b => rfl
  | w => rfl
  | l =>
    cases p with
    | cpu => exact absurd rfl (h rfl)
    | risc u => rfl

theorem alignedAddr_eq {sz : Size} {a : Long} (h : a.toNat < 0x1000000) (ha : a.toNat % sz.bytes = 0) :
    alignedAddr sz a = a.toNat := by
  simp only [alignedAddr, ha]
  omega

/-- The address of byte `o` of a unit. -/
theorem InUnit.alignedAddr_eq {g : Region} {unit : Nat} {sz : Size} {a o : Long}
    (h : InUnit g unit sz a.toNat o.toNat) (ho : o.toNat % sz.bytes = 0) :
    alignedAddr sz (a + o) = a.toNat + o.toNat := by
  have lt := regionAt_lt h.region
  have le := h.unit_le
  have hf := h.fits
  have sum : (a + o).toNat = a.toNat + o.toNat := by
    rw [BitVec.toNat_add]
    omega
  have ha : a.toNat % sz.bytes = 0 := by
    have := h.aligned
    rcases h.unit_cases with rfl | rfl <;> cases sz <;> simp only [Size.bytes] at * <;> omega
  rw [Machine.alignedAddr_eq (by rw [sum]; exact regionAt_lt h.regionAt_eq), sum]
  rw [sum, Nat.add_mod, ha, ho, Nat.add_zero, Nat.zero_mod]

section
variable {p : Role} {sz : Size} {g : Region} {a : Long}

/-- A read of a whole unit calls its register's read function (R109). -/
theorem memRead_unit (hp : OneAccess p sz) (h : InUnit g sz.bytes sz a.toNat 0) (s : State) :
    memRead p sz a s = ((regValue (devRegAt g.backing a.toNat) s).setWidth sz.bits,
      (regRead (devRegAt g.backing a.toNat) s).2) := by
  have ha : alignedAddr sz a = a.toNat + 0 := alignedAddr_eq (regionAt_lt h.region) h.aligned
  rw [memRead_one hp, ha, h.busRead]
  simp

/-- A write of a whole unit calls its register's write function (R109). -/
theorem memWrite_unit (hp : OneAccess p sz) (h : InUnit g sz.bytes sz a.toNat 0) (v : BitVec sz.bits) (s : State) :
    memWrite p sz a v s = regWrite (devRegAt g.backing a.toNat) (v.setWidth 32) s := by
  have ha : alignedAddr sz a = a.toNat + 0 := alignedAddr_eq (regionAt_lt h.region) h.aligned
  rw [memWrite_one hp, ha]
  have hv : (v.setWidth 32).toNat = v.toNat := by
    have := v.isLt
    rw [BitVec.toNat_setWidth]
    refine Nat.mod_eq_of_lt (this.trans_le (Nat.pow_le_pow_right (by decide) ?_))
    cases sz <;> decide
  refine h.busWrite_eq ?_
  rw [hv]
  refine bytesReplaced_whole ?_
  rcases h.unit_cases with e | e <;> rw [e]
  · exact (regValue_two_lt (h.unit_eq.trans e) _ s).2
  · exact BitVec.isLt _

end

end Sys2Proof.Machine
end

section
/-! The device registers behind an access: FLAGS, CTRL, INT1 and the stored ones. `FlagsAndCtrl` (O6) and
`Int1AndStoredRegisters` (O7) follow. -/
namespace Sys2Proof.Machine

/-! ### Narrow accesses -/

section
variable {p : Role} {sz : Size} {g : Region} {unit : Nat} {a o : Long} (hp : OneAccess p sz)
  (h : InUnit g unit sz a.toNat o.toNat) (ho : o.toNat % sz.bytes = 0) (s : State)
include hp h ho

/-- A read within a unit answers its bytes of what the register's read function answers (R109). -/
theorem memRead_narrow : memRead p sz (a + o) s =
    ((regValue (devRegAt g.backing a.toNat) s >>> (8 * (unit - o.toNat - sz.bytes))).setWidth sz.bits,
      (regRead (devRegAt g.backing a.toNat) s).2) := by
  rw [memRead_one hp, h.alignedAddr_eq ho, h.busRead]

/-- A write within a unit gives the write function the merge (R109). -/
theorem memWrite_narrow {v : BitVec sz.bits} {m : Long}
    (hm : BytesReplaced unit sz.bytes o.toNat v.toNat (mergeBase (devRegAt g.backing a.toNat) s).toNat m.toNat) :
    memWrite p sz (a + o) v s = regWrite (devRegAt g.backing a.toNat) m s := by
  rw [memWrite_one hp, h.alignedAddr_eq ho, h.busWrite_eq hm]

end

/-- A part of a register read at once, or cut out of a wider read. -/
theorem setWidth_ushiftRight (x : Long) {sh n w : Nat} (h : sh + n ≤ w) :
    (x >>> sh).setWidth n = (x.setWidth w).extractLsb' sh n := by
  apply BitVec.eq_of_getLsbD_eq
  intro i hi
  have hw : sh + i < w := by omega
  simp [hi, hw]

theorem oneAccess_b (p : Role) : OneAccess p .b := fun h => nomatch h
theorem oneAccess_w (p : Role) : OneAccess p .w := fun h => nomatch h
theorem oneAccess_risc (u : Coproc) (sz : Size) : OneAccess (.risc u) sz := fun _ h => nomatch h

/-! ### The registers of a unit by their addresses -/

/-- The control region of a unit (R110). -/
def ctrlRegion : Coproc → Region
  | .gpu => region .gpuCtrl
  | .dsp => region .dspCtrl

theorem ctrlReg_ne_ext (u : Coproc) (k unit ua : Nat) : ctrlReg u k ≠ .ext unit ua := by
  unfold ctrlReg
  split <;> simp

/-- The control registers of a unit: eight, and MACHI on the DSP (R121, R122). -/
def HasCtrl (u : Coproc) (k : Nat) : Prop := k < 8 ∨ (u = .dsp ∧ k = 8)

section
variable {u : Coproc} {k : Nat} {a : Long} (hk : HasCtrl u k) (ha : a.toNat = ctrlBase u + 4 * k) (w : Coproc) (s : State)
include hk ha

theorem inUnit_ctrl : InUnit (ctrlRegion u) 4 .l a.toNat 0 := by
  refine ⟨?_, by cases u <;> rfl, by decide, rfl, ?_, by decide⟩
  · rw [ha]
    rcases hk with hk | ⟨rfl, rfl⟩
    · cases u <;> interval_cases k <;> rfl
    · rfl
  · rw [ha, Nat.add_mul_mod_self_left]
    cases u <;> rfl

theorem devRegAt_ctrl : devRegAt (ctrlRegion u).backing a.toNat = ctrlReg u k := by
  have hb : (ctrlRegion u).backing = .ctrl u := by cases u <;> rfl
  rw [hb, devRegAt, ha, Nat.add_sub_cancel_left, Nat.mul_div_cancel_left k (by decide)]

/-- A long read by a unit from a control register calls its read function (R121, R122). -/
theorem memRead_ctrl : memRead (.risc w) .l a s = (regValue (ctrlReg u k) s, s) := by
  rw [memRead_unit (oneAccess_risc w .l) (inUnit_ctrl hk ha), devRegAt_ctrl hk ha,
    regRead_of_ne_ext (ctrlReg_ne_ext u k)]
  exact Prod.ext (BitVec.setWidth_eq _) rfl

/-- A long written by a unit to a control register calls its write function (R121, R122). -/
theorem memWrite_ctrl (v : Long) : memWrite (.risc w) .l a v s = regWrite (ctrlReg u k) v s := by
  rw [memWrite_unit (oneAccess_risc w .l) (inUnit_ctrl hk ha), devRegAt_ctrl hk ha]
  exact congrArg (fun x => regWrite _ x s) (BitVec.setWidth_eq v)

end

theorem flagsAddr_toNat (u : Coproc) : (flagsAddr u).toNat = ctrlBase u + 4 * 0 := by cases u <;> rfl
theorem ctrlAddr_toNat (u : Coproc) : (ctrlAddr u).toNat = ctrlBase u + 4 * 5 := by cases u <;> rfl

/-! ### Lines -/

@[simp] theorem State.setRisc_line (s : State) (u : Coproc) (r : Risc) (p : Role) (k : Nat) :
    (s.setRisc u r).line p k = s.line p k := by
  cases u <;> rcases p with _ | ⟨_ | _⟩ <;> rfl

section
variable (p q : Role) (k j : Nat) (b : Bool) (s : State) (u : Coproc)

@[simp] theorem raiseLine_risc : (raiseLine p k s).risc u = s.risc u := State.setLine_risc ..
@[simp] theorem setEnabled_risc : (setEnabled p k b s).risc u = s.risc u := State.setLine_risc ..
@[simp] theorem clearLineIf_risc : (clearLineIf p k b s).risc u = s.risc u := by
  unfold clearLineIf
  split
  · exact State.setLine_risc ..
  · rfl

theorem raiseLine_pending : ((raiseLine p k s).line q j).pending =
    ((s.line q j).pending || decide (q = p ∧ j = k ∧ k < lineCount p)) := by
  rw [raiseLine, State.line_setLine]
  split
  next h => simp [h]
  next h => simp [h]

theorem setEnabled_enabled : ((setEnabled p k b s).line q j).enabled =
    if q = p ∧ j = k ∧ k < lineCount p then b else (s.line q j).enabled := by
  rw [setEnabled, State.line_setLine, apply_ite Line.enabled]

theorem setEnabled_pending : ((setEnabled p k b s).line q j).pending = (s.line q j).pending := by
  rw [setEnabled, State.line_setLine]
  split
  next h => rw [h.1, h.2.1]
  next => rfl

theorem clearLineIf_enabled : ((clearLineIf p k b s).line q j).enabled = (s.line q j).enabled := by
  unfold clearLineIf clearLine
  split
  · rw [State.line_setLine]
    split
    next h => rw [h.1, h.2.1]
    next => rfl
  · rfl

/-- A line that does not exist is not pending, so it need not be excepted. -/
theorem clearLineIf_pending : ((clearLineIf p k b s).line q j).pending =
    ((s.line q j).pending && !(b && decide (q = p ∧ j = k))) := by
  unfold clearLineIf clearLine
  cases b
  · simp
  · simp only [if_true, State.line_setLine]
    by_cases h : q = p ∧ j = k
    · obtain ⟨rfl, rfl⟩ := h
      by_cases hk : j < lineCount q
      · simp [hk]
      · simp [hk, line_of_ge (Nat.le_of_not_lt hk), noLine]
    · have h' : ¬ (q = p ∧ j = k ∧ k < lineCount p) := fun e => h ⟨e.1, e.2.1⟩
      simp [h, h']

end

/-! ### What a write of a control register leaves -/

/-- `t` is `s` but for the CPU's lines. -/
def OnlyCpuLines (s t : State) : Prop := t = { s with cpuLines := t.cpuLines }

theorem OnlyCpuLines.trans {s t w : State} (h : OnlyCpuLines s t) (g : OnlyCpuLines t w) : OnlyCpuLines s w := by
  unfold OnlyCpuLines at *
  rw [h] at g
  exact g

theorem onlyCpuLines_setLine (k : Nat) (l : Line) (s : State) : OnlyCpuLines s (s.setLine .cpu k l) := by
  simp only [State.setLine]
  split <;> rfl

/-- `t` is `s` but for the lines and the common registers of one unit, and the CPU's lines. -/
def OnlyCtrl : Coproc → State → State → Prop
  | .gpu, s, t => t = { s with cpuLines := t.cpuLines, gpu := { s.gpu with core := t.gpu.core, lines := t.gpu.lines } }
  | .dsp, s, t => t = { s with cpuLines := t.cpuLines, dsp := { s.dsp with core := t.dsp.core, lines := t.dsp.lines } }

namespace OnlyCtrl
variable {u : Coproc} {s t w : State}

theorem refl (u : Coproc) (s : State) : OnlyCtrl u s s := by cases u <;> rfl

theorem trans (h : OnlyCtrl u s t) (g : OnlyCtrl u t w) : OnlyCtrl u s w := by
  cases u <;> simp only [OnlyCtrl] at * <;> rw [h] at g <;> exact g

theorem of_onlyCpuLines (h : OnlyCpuLines s t) : OnlyCtrl u s t := by
  cases u <;> (simp only [OnlyCtrl]; rw [h])

theorem setRisc (h : OnlyCtrl u s t) (r : Risc) : OnlyCtrl u s (t.setRisc u r) := h.trans (by cases u <;> rfl)

theorem setLine_unit (h : OnlyCtrl u s t) (k : Nat) (l : Line) : OnlyCtrl u s (t.setLine (.risc u) k l) :=
  h.trans (by cases u <;> simp only [State.setLine] <;> split <;> rfl)

theorem raiseLine_cpu (h : OnlyCtrl u s t) (k : Nat) : OnlyCtrl u s (raiseLine .cpu k t) :=
  h.trans (of_onlyCpuLines (onlyCpuLines_setLine k _ t))

theorem clearLineIf (h : OnlyCtrl u s t) (k : Nat) (b : Bool) : OnlyCtrl u s (clearLineIf (.risc u) k b t) := by
  unfold Machine.clearLineIf
  split
  · exact h.setLine_unit k _
  · exact h

end OnlyCtrl

/-! ### FLAGS -/

theorem writeFlags_onlyCtrl (u : Coproc) (v : Long) (s : State) : OnlyCtrl u s (writeFlags u v s) := by
  unfold writeFlags
  iterate 6 apply OnlyCtrl.clearLineIf
  apply OnlyCtrl.setRisc
  iterate 6 apply OnlyCtrl.setLine_unit
  exact (OnlyCtrl.refl u s).setRisc _

@[simp] theorem setLine_risc_cpuLines (s : State) (u : Coproc) (k : Nat) (l : Line) :
    (s.setLine (.risc u) k l).cpuLines = s.cpuLines := by
  cases u <;> simp only [State.setLine] <;> split <;> rfl

@[simp] theorem setEnabled_risc_cpuLines (s : State) (u : Coproc) (k : Nat) (b : Bool) :
    (setEnabled (.risc u) k b s).cpuLines = s.cpuLines := setLine_risc_cpuLines ..

@[simp] theorem clearLineIf_risc_cpuLines (s : State) (u : Coproc) (k : Nat) (b : Bool) :
    (clearLineIf (.risc u) k b s).cpuLines = s.cpuLines := by
  unfold clearLineIf
  split
  · exact setLine_risc_cpuLines ..
  · rfl

theorem writeFlags_cpuLines (u : Coproc) (v : Long) (s : State) : (writeFlags u v s).cpuLines = s.cpuLines := by
  simp [writeFlags]

/-- The flags and the stored bits of FLAGS; IMASK can only be cleared (R34). -/
theorem writeFlags_risc (u : Coproc) (v : Long) (s : State) : (writeFlags u v s).risc u =
    { s.risc u with
      z := v.getLsbD 0, c := v.getLsbD 1, n := v.getLsbD 2, imask := (s.risc u).imask && v.getLsbD 3,
      regpage := v.getLsbD 14, dmaen := v.getLsbD 15 } := by
  simp [writeFlags]

/-- The enabled flags that a write of FLAGS stores, and the pending flags it clears (R34). -/
theorem writeFlags_line (u : Coproc) (v : Long) (s : State) {k : Nat} (hk : k < lineCount (.risc u)) :
    ((writeFlags u v s).line (.risc u) k).enabled = v.getLsbD (if k = 5 then 16 else 4 + k) ∧
      ((writeFlags u v s).line (.risc u) k).pending =
        ((s.line (.risc u) k).pending && !v.getLsbD (if k = 5 then 17 else 9 + k)) := by
  have hk6 : k < 6 := lt_of_lt_of_le hk (by cases u <;> decide)
  simp only [writeFlags, clearLineIf_enabled, clearLineIf_pending, State.setRisc_line, setEnabled_enabled,
    setEnabled_pending, true_and]
  interval_cases k <;> simp [lt_of_le_of_lt (Nat.zero_le _) hk, hk]

/-- What a read of FLAGS answers (R34). -/
theorem getLsbD_flagsValue (u : Coproc) (s : State) (i : Nat) : (flagsValue u s).getLsbD i =
    let r := s.risc u
    let en : Nat → Bool := fun k => (s.line (.risc u) k).enabled
    (r.z && decide (i = 0) || r.c && decide (i = 1) || r.n && decide (i = 2) || r.imask && decide (i = 3) ||
      en 0 && decide (i = 4) || en 1 && decide (i = 5) || en 2 && decide (i = 6) || en 3 && decide (i = 7) ||
      en 4 && decide (i = 8) || r.regpage && decide (i = 14) || r.dmaen && decide (i = 15) ||
      en 5 && decide (i = 16)) := by
  by_cases h : i < 32
  · simp only [flagsValue, BitVec.getLsbD_or, getLsbD_bitAt, h, decide_true, Bool.and_true]
  · have ne : ∀ j, j < 32 → i ≠ j := fun j hj => by omega
    simp [flagsValue, h, ne]

/-! ### CTRL -/

theorem writeCtrl_onlyCtrl (u : Coproc) (v : Long) (s : State) : OnlyCtrl u s (writeCtrl u v s) := by
  have h0 := (OnlyCtrl.refl u s).setRisc { s.risc u with singleStep := v.getLsbD 3, busHog := v.getLsbD 11 }
  unfold writeCtrl
  apply OnlyCtrl.setRisc
  split <;> split
  · exact (h0.raiseLine_cpu _).setLine_unit 0 _
  · exact h0.setLine_unit 0 _
  · exact h0.raiseLine_cpu _
  · exact h0

theorem writeCtrl_risc (u : Coproc) (v : Long) (s : State) : (writeCtrl u v s).risc u =
    { s.risc u with go := v.getLsbD 0, singleStep := v.getLsbD 3, busHog := v.getLsbD 11 } := by
  unfold writeCtrl
  simp only [State.setRisc_risc]
  split <;> split <;> simp

theorem writeCtrl_enabled (u : Coproc) (v : Long) (s : State) : SameEnabled s (writeCtrl u v s) := by
  intro q k
  simp only [writeCtrl, State.setRisc_line]
  split <;> split <;> simp only [raiseLine_enabled, State.setRisc_line]

/-- The two lines that a write of CTRL can raise (R35, R608). -/
theorem writeCtrl_pending (u : Coproc) (v : Long) (s : State) (q : Role) (k : Nat) :
    ((writeCtrl u v s).line q k).pending = ((s.line q k).pending ||
      v.getLsbD 1 && decide (q = .cpu ∧ k = cpuIntLine u) || v.getLsbD 2 && decide (q = .risc u ∧ k = 0)) := by
  have hc : cpuIntLine u < lineCount .cpu := by cases u <;> decide
  have h0 : 0 < lineCount (.risc u) := by cases u <;> decide
  simp only [writeCtrl, State.setRisc_line]
  cases v.getLsbD 1 <;> cases v.getLsbD 2 <;> simp [raiseLine_pending, hc, h0]

/-- What a read of CTRL answers; bits 15:12 are VERSION (R35). -/
theorem getLsbD_ctrlValue (u : Coproc) (s : State) (i : Nat) : (ctrlValue u s).getLsbD i =
    let r := s.risc u
    let lat : Nat → Bool := fun k => (s.line (.risc u) k).pending
    (r.go && decide (i = 0) || r.singleStep && decide (i = 3) || lat 0 && decide (i = 6) || lat 1 && decide (i = 7) ||
      lat 2 && decide (i = 8) || lat 3 && decide (i = 9) || lat 4 && decide (i = 10) || r.busHog && decide (i = 11) ||
      decide (i = 13) || lat 5 && decide (i = 16)) := by
  have version : (0x2000#32).getLsbD i = decide (i = 13) := by
    rw [show (0x2000#32) = bitAt true 13 from rfl, getLsbD_bitAt]
    by_cases h : i = 13 <;> simp [h]
  by_cases h : i < 32
  · simp only [ctrlValue, BitVec.getLsbD_or, getLsbD_bitAt, version, h, decide_true, Bool.and_true]
  · have ne : ∀ j, j < 32 → i ≠ j := fun j hj => by omega
    simp only [ctrlValue, BitVec.getLsbD_or, version]
    simp [h, ne]

/-- Line 5 is the DSP's alone (R51). -/
theorem line_five (u : Coproc) (s : State) : u = .dsp ∨ s.line (.risc u) 5 = noLine := by
  cases u
  · exact .inr rfl
  · exact .inl rfl

/-- A register of four bytes by a long of a unit and by narrow accesses of any processor (R109). -/
theorem narrow_four (p : Role) (w : Coproc) {a o : Long} (s : State) {g : Region} {sz : Size}
    (hp : OneAccess p sz) (h : InUnit g 4 sz a.toNat o.toNat) (ho : o.toNat % sz.bytes = 0) :
    (memRead p sz (a + o) s).1 =
        (memRead (.risc w) .l a s).1.extractLsb' (8 * (4 - o.toNat - sz.bytes)) sz.bits ∧
      (memRead p sz (a + o) s).2 = (memRead (.risc w) .l a s).2 ∧
      ∀ (v : BitVec sz.bits) (m : Long),
        BytesReplaced 4 sz.bytes o.toNat v.toNat (memRead (.risc w) .l a s).1.toNat m.toNat →
        memWrite p sz (a + o) v s = memWrite (.risc w) .l a m s := by
  have whole : InUnit g 4 .l a.toNat 0 :=
    ⟨h.region, h.unit_eq, h.le_two, h.dvd_four, h.aligned, le_rfl⟩
  have hbits : sz.bits = 8 * sz.bytes := by cases sz <;> rfl
  have hfits := h.fits
  rw [memRead_narrow hp h ho, memRead_unit (oneAccess_risc w .l) whole]
  refine ⟨setWidth_ushiftRight _ (by rw [hbits]; simp only [Size.bits]; omega), rfl, fun v m hm => ?_⟩
  have hv : BitVec.setWidth (Size.bits .l) (regValue (devRegAt g.backing a.toNat) s) =
      mergeBase (devRegAt g.backing a.toNat) s :=
    (BitVec.setWidth_eq _).trans (mergeBase_eq (devRegAt_four h.unit_eq _) s).symm
  simp only [hv] at hm
  rw [memWrite_narrow hp h ho s hm, memWrite_unit (oneAccess_risc w .l) whole]
  exact congrArg (fun x => regWrite _ x s) (BitVec.setWidth_eq m).symm

/-- Settles O6: an access of a unit is the call of the register's function, and a narrow one merges its bytes. -/
theorem flagsAndCtrl : Obligations.FlagsAndCtrl := by
  refine ⟨fun w u v s => ?_, fun w u s => ?_, fun w u v s => ?_, fun w u s => ?_, fun p w a o s g hg hu ha => ?_⟩
  · rw [memWrite_ctrl (.inl (by decide)) (flagsAddr_toNat u)]
    have hr : (regWrite (ctrlReg u 0) v s).risc u = _ := writeFlags_risc u v s
    have only : OnlyCtrl u s (regWrite (ctrlReg u 0) v s) := writeFlags_onlyCtrl u v s
    have hc : (regWrite (ctrlReg u 0) v s).cpuLines = s.cpuLines := writeFlags_cpuLines u v s
    simp only [hr, true_and]
    refine ⟨fun k hk => writeFlags_line u v s ?_, ?_, ?_⟩
    · rcases hk with ⟨rfl, hk⟩ | hk
      · exact hk
      · exact lt_of_lt_of_le hk (by cases u <;> decide)
    · rintro rfl
      rw [only, hc]
    · rintro rfl
      rw [only, hc]
  · rw [memRead_ctrl (.inl (by decide)) (flagsAddr_toNat u)]
    simp only [ctrlReg, regValue, getLsbD_flagsValue]
    refine ⟨trivial, by simp, by simp, by simp, by simp, fun k hk => ?_, by simp, by simp, ?_, fun k hk => ?_⟩
    · interval_cases k <;> simp
    · rcases line_five u s with rfl | h5
      · simp
      · simp [h5, noLine]
    · have ne : ∀ j, j < 9 ∨ 14 ≤ j ∧ j < 17 → k ≠ j := fun j hj => by omega
      simp [ne]
  · rw [memWrite_ctrl (.inl (by decide)) (ctrlAddr_toNat u)]
    have only : OnlyCtrl u s (regWrite (ctrlReg u 5) v s) := writeCtrl_onlyCtrl u v s
    refine ⟨writeCtrl_risc u v s, fun k => ?_, fun k => ?_, writeCtrl_enabled u v s, ?_, ?_⟩
    · exact (writeCtrl_pending u v s .cpu k).trans (by simp)
    · exact (writeCtrl_pending u v s (.risc u) k).trans (by simp)
    · rintro rfl
      exact ⟨rfl, only⟩
    · rintro rfl
      exact ⟨rfl, only⟩
  · rw [memRead_ctrl (.inl (by decide)) (ctrlAddr_toNat u)]
    simp only [ctrlReg, regValue, getLsbD_ctrlValue]
    refine ⟨trivial, by simp, by simp, fun k hk => ?_, by simp, ?_, ?_, fun k hk => ?_⟩
    · interval_cases k <;> simp
    · have version : (ctrlValue u s).extractLsb' 12 4 = 2#4 := by
        apply BitVec.eq_of_getLsbD_eq
        intro i hi
        simp only [BitVec.getLsbD_extractLsb', getLsbD_ctrlValue, hi]
        interval_cases i <;> simp
      rw [version]
      rfl
    · rcases line_five u s with rfl | h5
      · simp
      · simp [h5, noLine]
    · have ne : ∀ j, j = 0 ∨ j = 3 ∨ 6 ≤ j ∧ j < 17 → k ≠ j := fun j hj => by omega
      simp [ne]
  · refine ⟨fun ho => ?_, fun ho => ?_⟩
    · have h : InUnit g 4 .b a.toNat o.toNat := ⟨hg, hu, by decide, rfl, ha, ho⟩
      have shift : 24 - 8 * o.toNat = 8 * (4 - o.toNat - Size.b.bytes) := by simp only [Size.bytes]; omega
      rw [shift]
      exact narrow_four p w s (oneAccess_b p) h (Nat.mod_one _)
    · have ho' : o.toNat = 0 ∨ o.toNat = 2 := ho.imp (congrArg BitVec.toNat) (congrArg BitVec.toNat)
      have h : InUnit g 4 .w a.toNat o.toNat := ⟨hg, hu, by decide, rfl, ha, by simp only [Size.bytes]; omega⟩
      have shift : 16 - 8 * o.toNat = 8 * (4 - o.toNat - Size.w.bytes) := by simp only [Size.bytes]; omega
      rw [shift]
      exact narrow_four p w s (oneAccess_w p) h (by simp only [Size.bytes]; omega)

end Sys2Proof.Machine
end

section
/-! INT1 and the stored device registers; `Int1AndStoredRegisters` (O7). -/
namespace Sys2Proof.Machine

/-! ### VI and INT1 -/

theorem inUnit_vi : InUnit (region .tomRegs) 2 .w (0xF0004E#32).toNat 0 :=
  ⟨rfl, rfl, by decide, rfl, rfl, by decide⟩

theorem inUnit_int1 : InUnit (region .tomRegs) 2 .w (0xF000E0#32).toNat 0 :=
  ⟨rfl, rfl, by decide, rfl, rfl, by decide⟩

section
variable (p : Role) (v : Half) (s : State)

theorem memRead_vi : memRead p .w 0xF0004E s = (s.vi.setWidth 16, s) := by
  refine (memRead_unit (oneAccess_w p) inUnit_vi s).trans (Prod.ext ?_ rfl)
  exact BitVec.setWidth_setWidth_of_le s.vi (by decide : 16 ≤ 32)

theorem memWrite_vi : memWrite p .w 0xF0004E v s = { s with vi := v.setWidth 11 } := by
  refine (memWrite_unit (oneAccess_w p) inUnit_vi v s).trans (congrArg (fun x => { s with vi := x }) ?_)
  exact BitVec.setWidth_setWidth_of_le _ (by decide)

theorem memRead_int1 : memRead p .w 0xF000E0 s = ((int1Pending s).setWidth 16, s) :=
  memRead_unit (oneAccess_w p) inUnit_int1 s

theorem memWrite_int1 : memWrite p .w 0xF000E0 v s = writeInt1 (v.setWidth 32) s :=
  memWrite_unit (oneAccess_w p) inUnit_int1 v s

end

/-- The enabled flags that a write of INT1 stores, and the pending flags it clears (R52). -/
theorem writeInt1_line (v : Long) (s : State) {k : Nat} (hk : k < 5) :
    ((writeInt1 v s).line .cpu k).enabled = v.getLsbD k ∧
      ((writeInt1 v s).line .cpu k).pending = ((s.line .cpu k).pending && !v.getLsbD (8 + k)) := by
  simp only [writeInt1, clearLineIf_enabled, clearLineIf_pending, setEnabled_enabled, setEnabled_pending, true_and]
  interval_cases k <;> simp [lineCount]

theorem OnlyCpuLines.refl (s : State) : OnlyCpuLines s s := rfl

theorem OnlyCpuLines.setEnabled {s t : State} (h : OnlyCpuLines s t) (k : Nat) (b : Bool) :
    OnlyCpuLines s (setEnabled .cpu k b t) := h.trans (onlyCpuLines_setLine k _ t)

theorem OnlyCpuLines.clearLineIf {s t : State} (h : OnlyCpuLines s t) (k : Nat) (b : Bool) :
    OnlyCpuLines s (clearLineIf .cpu k b t) := by
  unfold Machine.clearLineIf
  split
  · exact h.trans (onlyCpuLines_setLine k _ t)
  · exact h

theorem writeInt1_onlyCpuLines (v : Long) (s : State) : OnlyCpuLines s (writeInt1 v s) := by
  unfold writeInt1
  iterate 5 apply OnlyCpuLines.clearLineIf
  iterate 5 apply OnlyCpuLines.setEnabled
  exact .refl s

/-! ### Values of the stored registers -/

theorem evenAddr_toNat (v : Long) : (evenAddr v).toNat = v.toNat / 2 * 2 := by
  have low : v.toNat = v.toNat / 2 * 2 + v.toNat % 2 := by omega
  have : evenAddr v = (v >>> 1) <<< 1 := by
    apply BitVec.eq_of_getLsbD_eq
    intro i hi
    interval_cases i <;> simp [evenAddr]
  rw [this]
  simp [Nat.shiftLeft_eq, Nat.shiftRight_eq_div_pow]
  omega

theorem mtxc_value (v : Long) : (BitVec.ofBool (v.getLsbD 4) ++ v.extractLsb' 0 4 : BitVec 5) = v.setWidth 5 := by
  apply BitVec.eq_of_getLsbD_eq
  intro i hi
  simp only [BitVec.getLsbD_append]
  interval_cases i <;> simp

theorem mtxa_value (v : Long) : (v.extractLsb' 2 10 ++ 0#2 : BitVec 12).toNat = v.toNat % 2 ^ 12 / 4 * 4 := by
  rw [toNat_append_eq, BitVec.extractLsb'_toNat, Nat.shiftRight_eq_div_pow]
  simp
  omega

/-! ### The stored registers of a unit -/

section
variable (u : Coproc) (v : Long) (s : State)

theorem mtxc_stored : (regValue (.mtxc u) (regWrite (.mtxc u) v s)).toNat = v.toNat % 32 := by
  simp only [regWrite, regValue, State.setRisc_risc]
  rw [mtxc_value, BitVec.toNat_setWidth_of_le (by decide)]
  exact BitVec.toNat_setWidth ..

theorem mtxa_stored : (regValue (.mtxa u) (regWrite (.mtxa u) v s)).toNat = v.toNat % 2 ^ 12 / 4 * 4 := by
  simp only [regWrite, regValue, State.setRisc_risc]
  rw [BitVec.toNat_setWidth_of_le (by decide), mtxa_value]

theorem endian_stored : regValue (.endian u) (regWrite (.endian u) v s) = v := by
  simp only [regWrite, regValue, State.setRisc_risc]

theorem pcPort_stored : (regValue (.pcPort u) (regWrite (.pcPort u) v s)).toNat = v.toNat / 2 * 2 := by
  simp only [regWrite, regValue, State.setRpc, State.setRisc_risc, evenAddr_toNat]

theorem hidataOrMod_stored : regValue (.hidataOrMod u) (regWrite (.hidataOrMod u) v s) = v := by cases u <;> rfl

/-- The register at DIVCTRL reads REMAIN, which a write does not change (R41). -/
theorem remain_stored : regValue (.remain u) (regWrite (.remain u) v s) = (s.risc u).remain := by
  simp only [regWrite, regValue, State.setRisc_risc]

end

theorem flagsAddr_add_toNat (u : Coproc) {k : Nat} (hk : k < 8) :
    (flagsAddr u + BitVec.ofNat 32 (4 * k)).toNat = ctrlBase u + 4 * k := by
  cases u <;> interval_cases k <;> rfl

theorem machiAddr_toNat : (0xF1A120#32).toNat = ctrlBase .dsp + 4 * 8 := rfl

/-! ### Registers of two bytes -/

theorem halves_toNat (x y : Half) :
    ((x.setWidth 32 <<< 16 ||| y.setWidth 32 : Long).setWidth 32).toNat = x.toNat * 2 ^ 16 + y.toNat := by
  have join : (x.setWidth 32 <<< 16 ||| y.setWidth 32 : Long) = x ++ y := by
    apply BitVec.eq_of_getLsbD_eq
    intro i hi
    rw [BitVec.getLsbD_append]
    by_cases h : i < 16
    · simp [h, hi]
    · simp [h, hi, BitVec.getLsbD_of_ge y i (by omega)]
  rw [join, BitVec.setWidth_eq]
  exact toNat_append_eq x y

/-- INT1 is the register at one address (R52). -/
theorem devRegAt_int1_iff {g : Region} {a : Long} (hg : regionAt a.toNat = some g) (hu : g.backing.unit = 2) :
    devRegAt g.backing a.toNat = .int1 ↔ a = 0xF000E0 := by
  constructor
  · intro h
    cases hb : g.backing with
    | tomRegs =>
      rw [hb, devRegAt] at h
      split at h
      · cases h
      · split at h
        next e => exact BitVec.eq_of_toNat_eq e
        next => cases h
    | bytes | ext unit => rw [hb] at h; cases h
    | ctrl u => rw [hb] at hu; cases hu
  · rintro rfl
    obtain rfl : region .tomRegs = g := Option.some.inj hg
    rfl

theorem second_half {a : Long} {g : Region} (hg : regionAt a.toNat = some g) (h4 : a.toNat % 4 = 0) :
    (a + 2).toNat = a.toNat + 2 ∧ regionAt (a + 2).toNat = some g ∧ (a + 2).toNat % 2 = 0 := by
  have h2 := add_two_toNat (regionAt_lt hg)
  refine ⟨h2, ?_, ?_⟩
  · rw [← hg, h2]
    exact regionAt_congr (by omega)
  · rw [h2]
    omega

section
variable {a o : Long} {g : Region} (hg : regionAt a.toNat = some g) (hu : g.backing.unit = 2) (ha : a.toNat % 2 = 0)
include hg hu ha

theorem inUnit_two : InUnit g 2 .w a.toNat 0 := ⟨hg, hu, by decide, rfl, ha, le_rfl⟩

theorem inUnit_two_byte (ho : o.toNat < 2) : InUnit g 2 .b a.toNat o.toNat := ⟨hg, hu, by decide, rfl, ha, ho⟩

/-- A word write of any processor calls the write function. -/
theorem memWrite_two (q : Role) (m : Half) (s : State) :
    memWrite q .w a m s = regWrite (devRegAt g.backing a.toNat) (m.setWidth 32) s :=
  memWrite_unit (oneAccess_w q) (inUnit_two hg hu ha) m s

theorem memRead_two (q : Role) (s : State) :
    memRead q .w a s = ((regValue (devRegAt g.backing a.toNat) s).setWidth 16, (regRead (devRegAt g.backing a.toNat) s).2) :=
  memRead_unit (oneAccess_w q) (inUnit_two hg hu ha) s

/-- A byte write merges into the 16 bits of the merge base (R109). -/
theorem memWrite_byte_two (ho : o.toNat < 2) (p q : Role) (s : State) {v : Byte} {b m : Half}
    (hb : b.setWidth 32 = mergeBase (devRegAt g.backing a.toNat) s)
    (h : BytesReplaced 2 1 o.toNat v.toNat b.toNat m.toNat) : memWrite p .b (a + o) v s = memWrite q .w a m s := by
  have wide : ∀ x : Half, (x.setWidth 32).toNat = x.toNat := fun x => by
    have := x.isLt
    rw [BitVec.toNat_setWidth]
    omega
  rw [memWrite_two hg hu ha]
  refine memWrite_narrow (oneAccess_b p) (inUnit_two_byte hg hu ha ho) (Nat.mod_one _) s ?_
  rw [← hb, wide, wide]
  exact h

/-- The read function's long is the 16 bits that a word read answers. -/
theorem regRead_two (q : Role) (s : State) : regRead (devRegAt g.backing a.toNat) s =
    ((memRead q .w a s).1.setWidth 32, (memRead q .w a s).2) := by
  have lt := (regValue_two_lt hu a.toNat s).1
  rw [memRead_two hg hu ha]
  refine Prod.ext (BitVec.eq_of_toNat_eq ?_) rfl
  simp only [regRead_fst, BitVec.toNat_setWidth, Size.bits]
  omega

theorem memRead_byte_two (ho : o.toNat < 2) (p q : Role) (s : State) :
    (memRead p .b (a + o) s).1 = (memRead q .w a s).1.extractLsb' (8 - 8 * o.toNat) 8 ∧
      (memRead p .b (a + o) s).2 = (memRead q .w a s).2 := by
  rw [memRead_narrow (oneAccess_b p) (inUnit_two_byte hg hu ha ho) (Nat.mod_one _), memRead_two hg hu ha]
  have shift : 8 - 8 * o.toNat = 8 * (2 - o.toNat - Size.b.bytes) := by simp only [Size.bytes]; omega
  rw [shift]
  exact ⟨setWidth_ushiftRight _ (by simp only [Size.bits, Size.bytes]; omega), rfl⟩

section
variable (h4 : a.toNat % 4 = 0)
include h4

/-- A unit's long is the word at the address and the word after it, the high half first (R109). -/
theorem memRead_long_two (w : Coproc) (q : Role) (s : State) :
    (memRead (.risc w) .l a s).1.toNat =
        (memRead q .w a s).1.toNat * 2 ^ 16 + (memRead q .w (a + 2) (memRead q .w a s).2).1.toNat ∧
      (memRead (.risc w) .l a s).2 = (memRead q .w (a + 2) (memRead q .w a s).2).2 := by
  obtain ⟨h2, hg2, ha2⟩ := second_half hg h4
  have hi := regRead_two hg hu ha q s
  have lo := regRead_two hg2 hu ha2 q (memRead q .w a s).2
  rw [memRead_one (oneAccess_risc w .l), alignedAddr_eq (sz := .l) (regionAt_lt hg) h4,
    busRead_device hg (ne_bytes_of_unit (le_of_eq hu.symm)), deviceRead, if_neg (by rw [hu]; decide), hi, ← h2]
  simp only [lo]
  exact ⟨halves_toNat _ _, trivial⟩

theorem memWrite_long_two (w : Coproc) (q : Role) (v : Long) (s : State) :
    memWrite (.risc w) .l a v s =
      memWrite q .w (a + 2) (v.extractLsb' 0 16) (memWrite q .w a (v.extractLsb' 16 16) s) := by
  obtain ⟨h2, hg2, ha2⟩ := second_half hg h4
  have lt := regionAt_lt hg
  have high : v >>> 16 = (v.extractLsb' 16 16).setWidth 32 := by
    apply BitVec.eq_of_toNat_eq
    have := v.isLt
    simp [Nat.shiftRight_eq_div_pow]
    omega
  have low : v &&& 0xFFFF = (v.extractLsb' 0 16).setWidth 32 := by
    apply BitVec.eq_of_toNat_eq
    have := Nat.and_two_pow_sub_one_eq_mod v.toNat 16
    simp at this ⊢
    omega
  rw [memWrite_one (oneAccess_risc w .l), alignedAddr_eq (sz := .l) lt h4, busWrite_device hg (ne_bytes_of_unit (le_of_eq hu.symm)),
    deviceWrite, if_neg (by rw [hu]; decide), memWrite_two hg hu ha, memWrite_two hg2 hu ha2, h2, ← high, ← low]
  rw [show v.setWidth 32 = v from BitVec.setWidth_eq v]

end

end

/-- Settles O7: each clause is the register's own read and write function, reached by the accesses above. -/
theorem int1AndStoredRegisters : Obligations.Int1AndStoredRegisters := by
  refine ⟨fun p v s => ?_, fun w u v s => ?_, fun p q w a o s g hg hu ha => ⟨fun ho => ?_, fun h4 => ?_⟩⟩
  · simp only [memWrite_int1, memRead_int1, memRead_vi, memWrite_vi]
    refine ⟨fun k hk => ?_, fun k => ?_, trivial, writeInt1_onlyCpuLines _ s, ?_, trivial, ?_, trivial⟩
    · have line := writeInt1_line (v.setWidth 32) s hk
      have h1 : k < 32 := by omega
      have h2 : 8 + k < 32 := by omega
      simpa [h1, h2] using line
    · rw [BitVec.getLsbD_setWidth, getLsbD_int1Pending]
      by_cases h : k < 16
      · simp [h]
      · have ge : lineCount .cpu ≤ k := le_trans (by decide : lineCount .cpu ≤ 16) (by omega)
        simp [h, line_of_ge ge, noLine]
    · exact BitVec.toNat_setWidth_of_le (by decide)
    · exact BitVec.toNat_setWidth ..
  · have port : ∀ k < 8, HasCtrl u k := fun k hk => .inl hk
    have at1 : (flagsAddr u + 4).toNat = _ := flagsAddr_add_toNat u (k := 1) (by decide)
    have at2 : (flagsAddr u + 8).toNat = _ := flagsAddr_add_toNat u (k := 2) (by decide)
    have at3 : (flagsAddr u + 0xC).toNat = _ := flagsAddr_add_toNat u (k := 3) (by decide)
    have at4 : (flagsAddr u + 0x10).toNat = _ := flagsAddr_add_toNat u (k := 4) (by decide)
    have at6 : (flagsAddr u + 0x18).toNat = _ := flagsAddr_add_toNat u (k := 6) (by decide)
    have at7 : (flagsAddr u + 0x1C).toNat = _ := flagsAddr_add_toNat u (k := 7) (by decide)
    simp only [memRead_ctrl (port 1 (by decide)) at1, memWrite_ctrl (port 1 (by decide)) at1,
      memRead_ctrl (port 2 (by decide)) at2, memWrite_ctrl (port 2 (by decide)) at2,
      memRead_ctrl (port 3 (by decide)) at3, memWrite_ctrl (port 3 (by decide)) at3,
      memRead_ctrl (port 4 (by decide)) at4, memWrite_ctrl (port 4 (by decide)) at4,
      memRead_ctrl (port 6 (by decide)) at6, memWrite_ctrl (port 6 (by decide)) at6,
      memRead_ctrl (port 7 (by decide)) at7, memWrite_ctrl (port 7 (by decide)) at7]
    simp only [ctrlReg, mtxc_stored, mtxa_stored, endian_stored, pcPort_stored, hidataOrMod_stored, remain_stored,
      true_and]
    refine ⟨?mtxc, ?mtxa, rfl, ?pc, ?hidata, ?modulo, rfl, ?machi⟩
    case mtxc | mtxa => simp only [regWrite, State.setRisc_risc]
    case pc => simp only [regWrite, State.setRpc, State.setRisc_risc]
    case hidata | modulo => rintro rfl; rfl
    case machi =>
      have hk : HasCtrl .dsp 8 := .inr ⟨rfl, rfl⟩
      refine ⟨memWrite_ctrl hk machiAddr_toNat w s v, ?_⟩
      exact (congrArg (fun r => r.1.toInt) (memRead_ctrl hk machiAddr_toNat w s)).trans
        (BitVec.toInt_signExtend_of_le (by decide))
  · have value : regValue _ s = (memRead q .w a s).1.setWidth 32 :=
      (regRead_fst ..).symm.trans (congrArg Prod.fst (regRead_two hg hu ha q s))
    obtain ⟨read, state⟩ := memRead_byte_two hg hu ha ho p q s
    refine ⟨read, state, fun v m hne h => ?_, fun v b m he hb h => ?_⟩
    · refine memWrite_byte_two hg hu ha ho p q s ?_ h
      rw [← value, mergeBase_eq (fun e => hne ((devRegAt_int1_iff hg hu).1 e))]
    · refine memWrite_byte_two hg hu ha ho p q s ?_ h
      rw [(devRegAt_int1_iff hg hu).2 he]
      apply BitVec.eq_of_getLsbD_eq
      intro i hi
      rw [mergeBase, getLsbD_int1Enabled, BitVec.getLsbD_setWidth, hb]
      by_cases h5 : i < 5
      · simp [h5, hi]
      · simp [h5, line_of_ge (p := .cpu) (Nat.le_of_not_lt h5), noLine]
  · exact ⟨memRead_long_two hg hu ha h4 w q s, fun v => memWrite_long_two hg hu ha h4 w q v s⟩

end Sys2Proof.Machine
end

section
/-! What reset, power on and construction leave; `ResetState` (O58). -/
namespace Sys2Proof.Machine

/-- A reset reads SSP and `pc` from memory, which a processor's access to main RAM does not change (R703). -/
theorem resetMachine_eq (s : State) : resetMachine s =
    { resetUnits s with cpu := State.resetCpu (s.mem.read32 0) (evenAddr (s.mem.read32 4)) } := by
  simp only [resetMachine, resetSequence, readLong, memRead_l_ram (a := 0) (by decide) rfl,
    memRead_l_ram (a := 4) (by decide) rfl]
  rfl

theorem getElem_replicate_or {n k : Nat} (l : Line) : (if h : k < n then (Vector.replicate n l)[k] else l) = l := by
  split
  · exact Vector.getElem_replicate ..
  · rfl

/-- Where every line is the reset line, a line that does not exist reads the same (R50, R603). -/
theorem line_resetLine {s : State} {eg ed : Bool} (cpu : s.cpuLines = Vector.replicate 5 State.resetLine)
    (gpu : s.gpu = State.resetGpu eg) (dsp : s.dsp = State.resetDsp ed) (p : Role) (k : Nat) :
    s.line p k = State.resetLine := by
  rcases p with _ | ⟨_ | _⟩ <;> simp only [State.line, cpu, gpu, dsp, State.resetGpu, State.resetDsp] <;>
    exact getElem_replicate_or State.resetLine

/-- The values of R59: those of a state whose processors, lines and scheduler are the reset ones. -/
theorem resetValues_of {t : State} {ssp pc : Long} {run : CpuRun} {eg ed : Bool}
    (cpu : t.cpu = { State.resetCpu ssp pc with run := run }) (gpu : t.gpu = State.resetGpu eg)
    (dsp : t.dsp = State.resetDsp ed) (lines : t.cpuLines = Vector.replicate 5 State.resetLine) (vi : t.vi = 0x7FF)
    (sched : t.sched = State.resetSched) (fetched : t.fetched = []) (cycles : t.stepCycles = 0) : ResetValues t := by
  obtain ⟨_, _, _, _, _, _, _, _, _, _, _, _⟩ := t
  subst cpu gpu dsp lines vi sched fetched cycles
  have sr : State.resetSr.toHalf = 0x2700 := by decide
  refine ⟨fun r => ?dreg, fun r hr => ?areg, rfl, sr, rfl, fun u => ?unit, rfl, rfl, rfl, rfl, fun p k => ?line,
    rfl, rfl, fun p => ?time, rfl, rfl, rfl, rfl⟩
  case dreg => exact Vector.getElem_replicate ..
  case areg => simp [State.areg, hr, State.resetCpu]
  case unit => cases u <;> exact ⟨rfl, rfl, rfl, rfl, rfl, rfl, rfl, rfl, rfl, rfl, rfl, rfl, rfl, rfl, rfl, rfl, rfl, rfl, rfl⟩
  case line => rw [line_resetLine rfl rfl rfl p k]; exact ⟨rfl, rfl⟩
  case time => rcases p with _ | ⟨_ | _⟩ <;> rfl

/-- The default device starts with nothing stored, a device with handlers with its own part as given (R59, R127). -/
theorem initial_units (d : ExtDevice) : d.initial.units = [] := by cases d <;> rfl

/-- Regions that share an address are not registered (R111). -/
theorem registrationOk_false {table : List Region} {i j a : Nat} {g h : Region} (hij : i < j) (hi : table[i]? = some g)
    (hj : table[j]? = some h) (hg : g.contains a = true) (hh : h.contains a = true) : registrationOk table = false := by
  rw [Bool.eq_false_iff]
  intro ok
  simp only [registrationOk, Bool.and_eq_true, decide_eq_true_eq, List.pairwise_iff_getElem] at ok
  obtain ⟨li, rfl⟩ := List.getElem?_eq_some_iff.1 hi
  obtain ⟨lj, rfl⟩ := List.getElem?_eq_some_iff.1 hj
  have apart := ok.2 i j li lj hij
  simp only [Region.contains, Bool.and_eq_true, decide_eq_true_eq] at hg hh
  omega

theorem registrationOk_regions : registrationOk regions = true := by decide

/-- What a reset of `s` leaves (R59, R703). -/
structure ResetLeaves (s t : State) : Prop where
  values : ResetValues t
  ssp : t.cpu.ssp = s.mem.read32 0
  pc : t.cpu.pc.toNat = (s.mem.read32 4).toNat / 2 * 2
  run : t.cpu.run = .running
  mem : t.mem = s.mem
  ext : t.ext = s.params.device.initial
  params : t.params = s.params
  en : ∀ u, (t.risc u).en = (s.risc u).en

/-- A reset, whatever becomes of the life cycle. -/
theorem resetLeaves (s : State) (b : Bool) : ResetLeaves s { resetMachine s with powered := b } := by
  rw [resetMachine_eq]
  exact {
    values := resetValues_of rfl rfl rfl rfl rfl rfl rfl rfl
    ssp := rfl
    pc := evenAddr_toNat _
    run := rfl
    mem := rfl
    ext := rfl
    params := rfl
    en := fun u => by cases u <;> rfl }

theorem resetMachine_powered (s : State) : (resetMachine s).powered = s.powered := by rw [resetMachine_eq]; rfl

/-- Settles O58: a reset is one state, given by the longs at 0 and 4; construction is another. -/
theorem resetState : Obligations.ResetState := by
  refine ⟨fun s => ?_, fun m mem => ?_, fun table i j a g h m mem hij hi hj hg hh => ?_, ?_⟩
  · intro left
    have of_leaves : ∀ t, ResetLeaves s t → left t := fun t h =>
      ⟨h.values, h.ssp, h.pc, h.run, h.mem, by rw [h.ext, initial_units], fun e => by rw [h.ext, e]; rfl,
        fun n own e => by rw [h.ext, e]; rfl, h.params, h.en⟩
    exact ⟨fun on => ⟨_, if_neg on, of_leaves _ (resetLeaves s (resetMachine s).powered), resetMachine_powered s⟩,
      fun off => if_pos off, fun off => ⟨_, if_pos off, of_leaves _ (resetLeaves s true), rfl⟩, fun on => if_neg on⟩
  · refine ⟨_, if_pos registrationOk_regions, ?_, rfl, rfl, rfl, rfl, rfl, rfl, rfl, fun u => by cases u <;> rfl⟩
    exact resetValues_of rfl rfl rfl rfl rfl rfl rfl rfl
  · exact if_neg (Bool.eq_false_iff.1 (registrationOk_false hij hi hj hg hh))
  · refine ⟨_, if_pos registrationOk_regions, ?_⟩
    simp only [powerOn, resetMachine_eq, if_true]
    rfl

end Sys2Proof.Machine
end

section
/-! The calls between runs; `HostCalls` (O60). -/
namespace Sys2Proof.Machine

/-! ### Switching a unit on and off (R709) -/

section
variable (u : Coproc) (b : Bool) (s : State)

/-- The time at which a unit that is switched on joins, or its own time (R709). -/
def joinTime : Nat := if b && !(s.risc u).en then (leastTime s roles).getD 0 else s.time (.risc u)

theorem enableUnit_eq :
    enableUnit u b s = (s.setRisc u { s.risc u with en := b }).setTime (.risc u) (joinTime u b s) := by
  unfold enableUnit joinTime
  split <;> cases u <;> rfl

theorem enableUnit_time : (enableUnit u b s).time (.risc u) = joinTime u b s := by
  rw [enableUnit_eq]
  cases u <;> rfl

theorem joinTime_stays (h : b = false ∨ (s.risc u).en = true) : joinTime u b s = s.time (.risc u) := by
  rcases h with h | h <;> simp [joinTime, h]

/-- A unit that is switched on joins at the least time of the eligible processors (R709). -/
theorem joinTime_least {p : Role} (hb : b = true) (off : (s.risc u).en = false) (hp : IsEligible s p) :
    joinTime u b s ≤ s.time p ∧ ∃ q, IsEligible s q ∧ joinTime u b s = s.time q := by
  obtain ⟨m, least, le⟩ := leastTime_le (eligible_iff.2 hp) (mem_roles p)
  obtain ⟨q, -, hq, time⟩ := leastTime_attained least
  have join : joinTime u b s = m := by simp [joinTime, hb, off, least]
  rw [join]
  exact ⟨le, q, eligible_iff.1 hq, time.symm⟩

end

/-! ### The bytes that `readMemory` shows (R710) -/

section
variable {x : Nat} {g : Region} {s : State}

theorem inspectByte_device (hg : regionAt x = some g) (hb : g.backing ≠ .bytes) :
    inspectByte x s = inspectDevice g.backing x s := by
  simp only [inspectByte, hg]

/-- A register of R120 to R122 shows the byte that a read would answer. -/
theorem inspectDevice_reg {b : Backing} (fits : Size.b.bytes ≤ b.unit)
    (h : ∀ unit ua, devRegAt b (x - x % b.unit) ≠ .ext unit ua) :
    inspectDevice b x s = (deviceRead b .b x s).1 := by
  simp only [inspectDevice, deviceRead, fits, if_true, regRead_fst]

theorem inspectDevice_ext {b : Backing} {unit ua : Nat} (h : devRegAt b (x - x % b.unit) = .ext unit ua) :
    inspectDevice b x s = 0xFF := by
  simp only [inspectDevice, h]
  rfl

/-- A byte of a device as the CPU reads it. -/
theorem memRead_byte_device (hg : regionAt x = some g) (hb : g.backing ≠ .bytes) :
    memRead .cpu .b (BitVec.ofNat 32 x) s = deviceRead g.backing .b x s := by
  have lt := regionAt_lt hg
  have hx : (BitVec.ofNat 32 x).toNat = x := Nat.mod_eq_of_lt (by omega)
  rw [memRead_one (oneAccess_b .cpu), alignedAddr_eq (by omega) (Nat.mod_one _), hx, busRead_device hg hb]

theorem inspectByte_reg (hg : regionAt x = some g) (hb : g.backing ≠ .bytes)
    (h : ∀ unit ua, devRegAt g.backing (x - x % g.backing.unit) ≠ .ext unit ua) :
    inspectByte x s = (memRead .cpu .b (BitVec.ofNat 32 x) s).1 := by
  have units : ∀ g ∈ regions, Size.b.bytes ≤ g.backing.unit := by decide
  rw [inspectByte_device hg hb, memRead_byte_device hg hb, inspectDevice_reg (units _ (regionAt_mem hg)) h]

/-- The four bytes of VI and INT1 lie in the region of TOM's registers. -/
theorem tom_regs (hg : regionAt x = some g) (hx : x / 2 * 2 = 0xF0004E ∨ x / 2 * 2 = 0xF000E0) :
    g = region .tomRegs := by
  have at4 : x / 4 = 0xF0004C / 4 ∨ x / 4 = 0xF000E0 / 4 := by omega
  rcases at4 with h | h <;> exact Option.some.inj (hg.symm.trans (regionAt_congr h))

theorem inspectByte_tom (hg : regionAt x = some g) (hx : x / 2 * 2 = 0xF0004E ∨ x / 2 * 2 = 0xF000E0) :
    inspectByte x s = (memRead .cpu .b (BitVec.ofNat 32 x) s).1 := by
  obtain rfl := tom_regs hg hx
  refine inspectByte_reg hg (by decide) fun unit ua => ?_
  have even : x - x % 2 = x / 2 * 2 := by omega
  have at2 : devRegAt (region .tomRegs).backing (x - x % (region .tomRegs).backing.unit) =
      devRegAt .tomRegs (x / 2 * 2) := congrArg (devRegAt .tomRegs) even
  rw [at2]
  rcases hx with h | h <;> rw [h] <;> exact nofun

theorem inspectByte_ctrl {u : Coproc} (hg : regionAt x = some g) (hu : g.backing = .ctrl u) :
    inspectByte x s = (memRead .cpu .b (BitVec.ofNat 32 x) s).1 := by
  refine inspectByte_reg hg (by rw [hu]; exact nofun) fun unit ua => ?_
  rw [hu]
  exact ctrlReg_ne_ext u _ unit ua

/-- A unit of ExtDevice shows the fill byte. -/
theorem inspectByte_ext (hg : regionAt x = some g) (hx : (∃ n, g.backing = .ext n) ∨
    (g.backing = .tomRegs ∧ x / 2 * 2 ≠ 0xF0004E ∧ x / 2 * 2 ≠ 0xF000E0)) : inspectByte x s = 0xFF := by
  rcases hx with ⟨n, h⟩ | ⟨h, hvi, hint⟩
  · rw [inspectByte_device hg (by rw [h]; exact nofun), h]
    exact inspectDevice_ext rfl
  · rw [inspectByte_device hg (by rw [h]; exact nofun), h]
    have even : x - x % 2 = x / 2 * 2 := by omega
    refine inspectDevice_ext (unit := 2) (ua := x / 2 * 2) ?_
    simp only [Backing.unit, even, devRegAt, hvi, hint, if_false]

theorem inspectByte_bytes (hg : regionAt x = some g) (hb : g.backing = .bytes) : inspectByte x s = s.mem.read x := by
  simp only [inspectByte, hg, hb]

theorem inspectByte_none (h : regionAt x = none) : inspectByte x s = 0xFF := by
  simp only [inspectByte, h]
  rfl

end

/-! ### Words and disassembly (R710) -/

theorem readMemory_word {a : Nat} (h : a + 2 ≤ 2 ^ 24) (s : State) :
    readMemory a 2 s = .ok [inspectByte a s, inspectByte (a + 1) s] := if_neg (by omega)

theorem readMemory_inspectWord {a : Nat} (h : a + 2 ≤ 2 ^ 24) (s : State) :
    readMemory a 2 s = .ok [(inspectWord a s).extractLsb' 8 8, (inspectWord a s).extractLsb' 0 8] := by
  have high : (inspectWord a s).extractLsb' 8 8 = inspectByte a s := by
    apply BitVec.eq_of_getLsbD_eq
    intro i hi
    rw [inspectWord, BitVec.getLsbD_extractLsb', BitVec.getLsbD_append]
    simp [hi]
  have low : (inspectWord a s).extractLsb' 0 8 = inspectByte (a + 1) s := by
    apply BitVec.eq_of_getLsbD_eq
    intro i hi
    rw [inspectWord, BitVec.getLsbD_extractLsb', BitVec.getLsbD_append]
    simp [hi]
  rw [readMemory_word h, high, low]

/-- The two bytes at an address in the bus make the word there. -/
theorem inspectWord_of_readMemory {a : Nat} {hi lo : Byte} {s : State} (h : readMemory a 2 s = .ok [hi, lo])
    (ha : a + 2 ≤ 2 ^ 24) : inspectWord a s = hi ++ lo := by
  rw [readMemory_word ha] at h
  injection h with h
  injection h with h1 h
  injection h with h2
  rw [inspectWord, h1, h2]

/-- The words of an instruction stand one after the other. -/
theorem words_eq (a n : Nat) (s : State) :
    inspectWord a s :: (List.range n).map (fun k => inspectWord (a + 2 * (1 + k)) s) =
      (List.range (1 + n)).map fun k => inspectWord (a + 2 * k) s := by
  rw [Nat.add_comm, List.range_succ_eq_map]
  simp [Nat.add_comm 1, Function.comp_def]

theorem disassembleAt_eq {p : Role} {x : Nat} {i : Instr} {s : State}
    (hi : decode p (inspectWord (x % 2 ^ 24 / 2 * 2) s) = .ok i)
    (fits : x % 2 ^ 24 / 2 * 2 + 2 * (1 + i.extWords) ≤ 2 ^ 24) :
    disassembleAt p x s = .ok
      { instr := i
        words := (List.range (1 + i.extWords)).map fun k => inspectWord (x % 2 ^ 24 / 2 * 2 + 2 * k) s
        text := instrText i ((List.range i.extWords).map fun k => inspectWord (x % 2 ^ 24 / 2 * 2 + 2 * (1 + k)) s) } := by
  have even : x % 0x1000000 - x % 2 = x % 2 ^ 24 / 2 * 2 := by omega
  have inside : ¬ 0x1000000 < x % 2 ^ 24 / 2 * 2 + 2 * (1 + i.extWords) := by omega
  simp only [disassembleAt, even, hi, inside, if_false, words_eq]

/-! ### The calls -/

theorem readRegister_cpu (s : State) :
    (∀ r : Fin 8, readRegister .cpu r s = .ok (s.dreg r).toNat ∧ readRegister .cpu (8 + r) s = .ok (s.areg r).toNat) ∧
      ∀ k, 20 ≤ k → k ≠ 1000 → readRegister .cpu k s = .error .noData := by
  refine ⟨fun r => ⟨dif_pos r.isLt, ?_⟩, fun k hk hne => ?_⟩
  · have h8 : ¬ 8 + r.val < 8 := by omega
    have h16 : 8 + r.val < 16 := by omega
    simp [readRegister, h16]
  · have ne : ∀ j < 20, k ≠ j ∧ ¬ k < j := fun j hj => by omega
    simp [readRegister, ne, hne]

theorem readRegister_risc (u : Coproc) (s : State) :
    (∀ n : Fin 32, readRegister (.risc u) n s = .ok ((s.risc u).bank0[n]).toNat ∧
        readRegister (.risc u) (32 + n) s = .ok ((s.risc u).bank1[n]).toNat) ∧
      ∀ k, 66 ≤ k → k ≠ 1000 → readRegister (.risc u) k s = .error .noData := by
  refine ⟨fun n => ⟨dif_pos n.isLt, ?_⟩, fun k hk hne => ?_⟩
  · have h64 : 32 + n.val < 64 := by omega
    simp [readRegister, h64]
  · have ne : ∀ j < 66, k ≠ j ∧ ¬ k < j := fun j hj => by omega
    simp [readRegister, ne, hne]

/-- Settles O60: each call is the function of the model that the clause names. -/
theorem hostCalls : Obligations.HostCalls := by
  refine ⟨fun s => ⟨fun off => ?_, fun on => ?_⟩, fun u b s => ⟨fun off pow => if_pos ⟨off, pow⟩, fun legal => ?_⟩,
    fun s => ?_, fun a len s => ⟨fun h => if_pos h, fun h => ?_⟩, fun p x hi lo i s => ?_⟩
  · exact ⟨if_pos off, if_pos off, if_pos off, fun v => if_pos off⟩
  · refine ⟨if_neg on, if_neg on, s, if_neg on, if_neg on, fun v von params powered => ?_⟩
    rw [restore, if_neg von, params, powered]
  · have legal' : ¬ (s.cpu.run = .off ∧ s.powered = true) := by
      rintro ⟨off, pow⟩
      rcases legal with h | h
      · exact h off
      · simp [h] at pow
    refine ⟨enableUnit u b s, if_neg legal', ?_, ?_, ?_⟩
    · rw [enableUnit_time, ← enableUnit_eq]
    · rw [enableUnit_time]
      exact joinTime_stays u b s
    · rw [enableUnit_time]
      exact fun p => joinTime_least u b s
  · obtain ⟨low, high⟩ := readRegister_cpu s
    refine ⟨low, rfl, rfl, rfl, rfl, rfl, high, fun u => ?_⟩
    rw [memRead_ctrl (k := 0) (.inl (by decide)) (flagsAddr_toNat u)]
    obtain ⟨banks, beyond⟩ := readRegister_risc u s
    exact ⟨banks, rfl, rfl, rfl, beyond⟩
  · refine ⟨_, if_neg (Nat.not_lt.mpr h), by simp, fun k hk => ⟨inspectByte (a + k) s, by simp [hk], ?_⟩⟩
    refine ⟨inspectByte_none, fun g hg => ⟨inspectByte_bytes hg, fun hx => ?_, inspectByte_ext hg⟩⟩
    rcases hx with ⟨u, hu⟩ | hx
    · exact inspectByte_ctrl hg hu
    · exact inspectByte_tom hg hx
  · intro start len word row fits
    rw [← inspectWord_of_readMemory word (by omega)] at row
    refine ⟨_, disassembleAt_eq row fits, rfl, by simp [len], ?_, fun k w hw => ?_⟩
    · rw [← words_eq]
      rfl
    · obtain ⟨hk, rfl⟩ : k < len ∧ inspectWord (start + 2 * k) s = w := by
        simpa only [List.length_map, List.length_range, List.getElem_map, List.getElem_range, exists_prop] using
          List.getElem?_eq_some_iff.1 hw
      exact readMemory_inspectWord (by omega) s

end Sys2Proof.Machine
end

section
/-! The stages of an access: its address, its region, the region's capabilities; and the fetch. `AccessStages` (O4). -/
namespace Sys2Proof.Machine

/-! ### The address of an access -/

theorem alignedAddr_eq_div (sz : Size) (addr : Long) :
    alignedAddr sz addr = addr.toNat % 0x1000000 / sz.bytes * sz.bytes := by
  cases sz <;> simp only [alignedAddr, Size.bytes] <;> omega

/-- Accesses of a width at addresses that differ in the dropped bits alone are at one address (R101, R102). -/
theorem alignedAddr_congr {sz : Size} {a b : Long}
    (h : a.toNat % 0x1000000 / sz.bytes = b.toNat % 0x1000000 / sz.bytes) : alignedAddr sz a = alignedAddr sz b := by
  rw [alignedAddr_eq_div, alignedAddr_eq_div, h]

/-- An access of any width lies in the region of the aligned long around it (R111). -/
theorem regionAt_alignedAddr (sz : Size) (addr : Long) :
    regionAt (alignedAddr sz addr) = regionAt (addr.toNat % 0x1000000 / 4 * 4) := by
  refine regionAt_congr ?_
  cases sz <;> simp only [alignedAddr, Size.bytes] <;> omega

theorem memRead_one_congr {p : Role} {sz : Size} (hp : OneAccess p sz) {a b : Long}
    (h : a.toNat % 0x1000000 / sz.bytes = b.toNat % 0x1000000 / sz.bytes) (s : State) :
    memRead p sz a s = memRead p sz b s := by
  rw [memRead_one hp, memRead_one hp, alignedAddr_congr h]

theorem memWrite_one_congr {p : Role} {sz : Size} (hp : OneAccess p sz) {a b : Long}
    (h : a.toNat % 0x1000000 / sz.bytes = b.toNat % 0x1000000 / sz.bytes) (v : BitVec sz.bits) (s : State) :
    memWrite p sz a v s = memWrite p sz b v s := by
  rw [memWrite_one hp, memWrite_one hp, alignedAddr_congr h]

/-! ### Unmapped addresses -/

section
variable {a : Nat} (h : regionAt a = none) (sz : Size) (s : State)
include h

theorem busRead_unmapped : busRead sz a s = (fillValue sz, s) := by simp only [busRead, h]
theorem busWrite_unmapped (v : BitVec sz.bits) : busWrite sz a v s = s := by simp only [busWrite, h]

end

section
variable {addr : Long} (h : regionAt (addr.toNat % 0x1000000 / 4 * 4) = none) (s : State)
include h

theorem fetchWordAt_unmapped : fetchWordAt addr s = 0xFFFF := by
  simp only [fetchWordAt, regionAt_alignedAddr, h]
  rfl

variable {p : Role} {sz : Size} (hp : OneAccess p sz)
include hp

theorem memRead_unmapped : memRead p sz addr s = (fillValue sz, s) := by
  rw [memRead_one hp, busRead_unmapped ((regionAt_alignedAddr sz addr).trans h)]

theorem memWrite_unmapped (v : BitVec sz.bits) : memWrite p sz addr v s = s := by
  rw [memWrite_one hp, busWrite_unmapped ((regionAt_alignedAddr sz addr).trans h)]

end

/-! ### A long of the CPU -/

/-- A long of the CPU is two words, the high half first (R100). -/
theorem memRead_cpu_long (a : Long) (s : State) :
    memRead .cpu .l a s =
      let hi := memRead .cpu .w a s
      let lo := memRead .cpu .w (a + 2) hi.2
      (hi.1 ++ lo.1, lo.2) := rfl

theorem memWrite_cpu_long (a : Long) (v : Long) (s : State) :
    memWrite .cpu .l a v s =
      memWrite .cpu .w (a + 2) (v.extractLsb' 0 16) (memWrite .cpu .w a (v.extractLsb' 16 16) s) := rfl

section
variable {addr : Long} (h : regionAt (addr.toNat % 0x1000000 / 4 * 4) = none)
  (h2 : regionAt ((addr + 2).toNat % 0x1000000 / 4 * 4) = none) (s : State)
include h h2

theorem memRead_cpu_long_unmapped : memRead .cpu .l addr s = (0xFFFFFFFF, s) := by
  simp only [memRead_cpu_long, memRead_unmapped h s (oneAccess_w _), memRead_unmapped h2 s (oneAccess_w _)]
  rfl

theorem memWrite_cpu_long_unmapped (v : Long) : memWrite .cpu .l addr v s = s := by
  rw [memWrite_cpu_long, memWrite_unmapped h s (oneAccess_w _), memWrite_unmapped h2 s (oneAccess_w _)]

end

/-! ### Capabilities (R105) -/

theorem readable_of_regionAt {a : Nat} {g : Region} (h : regionAt a = some g) : g.readable = true := by
  have all : ∀ g ∈ regions, g.readable = true := by decide
  exact all g (regionAt_mem h)

theorem bytes_of_executable {a : Nat} {g : Region} (h : regionAt a = some g) (he : g.executable = true) :
    g.backing = .bytes := by
  have all : ∀ g ∈ regions, g.executable = true → g.backing = .bytes := by decide
  exact all g (regionAt_mem h) he

section
variable {addr : Long} {g : Region} (hg : regionAt (addr.toNat % 0x1000000 / 4 * 4) = some g) (s : State)
include hg

theorem memWrite_discarded {p : Role} {sz : Size} (hp : OneAccess p sz) (hw : g.writable = false) (v : BitVec sz.bits) :
    memWrite p sz addr v s = s := by
  simp only [memWrite_one hp, busWrite, regionAt_alignedAddr, hg, hw, Bool.false_eq_true, if_false]

theorem fetchWordAt_not_executable (he : g.executable = false) : fetchWordAt addr s = 0xFFFF := by
  simp only [fetchWordAt, regionAt_alignedAddr, hg, he, Bool.false_eq_true, if_false]
  rfl

/-- A fetch from an executable region answers the word stored there (R106, R108). -/
theorem fetchWordAt_executable (he : g.executable = true) :
    (fetchWordAt addr s).toNat = (s.mem.read (addr.toNat % 0x1000000 / 2 * 2)).toNat * 256 +
      (s.mem.read (addr.toNat % 0x1000000 / 2 * 2 + 1)).toNat := by
  rw [← alignedAddr_eq_div .w addr]
  simp only [fetchWordAt, regionAt_alignedAddr, hg, he, if_true, bytes_of_executable hg he]
  exact toNat_append_eq ..

end

/-! ### Fetches (R108) -/

theorem fetch16_cpu_pc (s : State) : (fetch16 .cpu s).2.cpu.pc.toNat = (s.cpu.pc.toNat + 2) % 2 ^ 32 / 2 * 2 := by
  rw [fetch16_cpu_cpu, evenAddr_toNat, BitVec.toNat_add]
  rfl

theorem fetch16_risc_pc (u : Coproc) (s : State) :
    ((fetch16 (.risc u) s).2.risc u).pc = evenAddr ((s.risc u).pc + 2) := by
  cases u <;> rfl

/-- Settles O4: an access is a bus access at its aligned address, whose region decides. -/
theorem accessStages : Obligations.AccessStages := by
  refine ⟨fun p addr s h => ?unmapped, fun p addr s g hg => ?mapped, fun p u a b s => ?address, fun s => ?fetch⟩
  case unmapped =>
    exact ⟨memRead_unmapped h s (oneAccess_b p), memRead_unmapped h s (oneAccess_w p), fetchWordAt_unmapped h s,
      fun u => memRead_unmapped h s (oneAccess_risc u .l), memWrite_unmapped h s (oneAccess_b p),
      memWrite_unmapped h s (oneAccess_w p), fun u => memWrite_unmapped h s (oneAccess_risc u .l),
      fun h2 => ⟨memRead_cpu_long_unmapped h h2 s, memWrite_cpu_long_unmapped h h2 s⟩⟩
  case mapped =>
    refine ⟨readable_of_regionAt hg, fun hw => ?_, fetchWordAt_not_executable hg s, fetchWordAt_executable hg s⟩
    exact ⟨memWrite_discarded hg s (oneAccess_b p) hw, memWrite_discarded hg s (oneAccess_w p) hw,
      fun u => memWrite_discarded hg s (oneAccess_risc u .l) hw⟩
  case address =>
    refine ⟨fun h => ?_, fun h => ?_, fun h => ?_, toNat_append_eq .., rfl, fun v => memWrite_cpu_long a v s⟩
    · have same : a.toNat % 0x1000000 / 1 = b.toNat % 0x1000000 / 1 := by rw [h]
      exact ⟨memRead_one_congr (oneAccess_b p) same s, fun v => memWrite_one_congr (oneAccess_b p) same v s⟩
    · refine ⟨memRead_one_congr (oneAccess_w p) h s, fun v => memWrite_one_congr (oneAccess_w p) h v s, ?_⟩
      simp only [fetchWordAt, alignedAddr_congr (sz := .w) h]
    · exact ⟨memRead_one_congr (oneAccess_risc u .l) h s, fun v => memWrite_one_congr (oneAccess_risc u .l) h v s⟩
  case fetch =>
    refine ⟨⟨rfl, fetch16_cpu_pc s, rfl⟩, fun u => ⟨rfl, ?_, ?_⟩⟩
    · rw [fetch16_risc_pc, evenAddr_toNat, BitVec.toNat_add]
      rfl
    · rw [fetch16_risc_pc]
      exact fetch16_risc u s

end Sys2Proof.Machine
end

section
/-! Accesses in byte arrays as reads and writes of memory, and what a call of a function of ExtDevice does.
`ByteArrayAccess` (O5). -/
namespace Sys2Proof.Machine

/-! ### Bytes laid together (R106) -/

theorem bigEndian_append (l m : List Byte) : bigEndian (l ++ m) = bigEndian l * 256 ^ m.length + bigEndian m := by
  induction l with
  | nil => simp [bigEndian]
  | cons b rest ih =>
    simp only [List.cons_append, bigEndian, ih, List.length_append, pow_add]
    ring

theorem Memory.read16_toNat (m : Memory) (a : Nat) :
    (m.read16 a).toNat = (m.read a).toNat * 256 + (m.read (a + 1)).toNat := toNat_append_eq ..

theorem Memory.read32_toNat (m : Memory) (a : Nat) :
    (m.read32 a).toNat = (m.read16 a).toNat * 2 ^ 16 + (m.read16 (a + 2)).toNat := by
  rw [← append_read16]
  exact toNat_append_eq ..

/-- A read of a byte array at a width answers its bytes, the first the most significant (R106). -/
theorem Memory.readAt_toNat (m : Memory) (sz : Size) (a : Nat) :
    (m.readAt sz a).toNat = bigEndian ((bytesFrom sz a).map m.read) := by
  cases sz with
  | b => simp [bytesFrom, bigEndian, readAt]
  | w =>
    refine (m.read16_toNat a).trans ?_
    simp [bytesFrom, bigEndian, List.range_succ]
  | l =>
    refine (m.read32_toNat a).trans ?_
    simp [bytesFrom, bigEndian, List.range_succ, read16_toNat]
    ring

/-! ### One bus access -/

theorem mem_bytesFrom_self (sz : Size) (a : Nat) : a ∈ bytesFrom sz a := by
  have : 1 ≤ sz.bytes := by cases sz <;> decide
  rw [mem_bytesFrom]
  omega

theorem accessBytes_one {p : Role} {sz : Size} (h : OneAccess p sz) (addr : Long) :
    accessBytes p sz addr = bytesFrom sz (alignedAddr sz addr) := by
  cases sz with
  | b | w => rfl
  | l =>
    cases p with
    | cpu => exact absurd rfl (h rfl)
    | risc u => rfl

theorem not_oneAccess {p : Role} {sz : Size} (h : ¬ OneAccess p sz) : sz = .l ∧ p = .cpu := by
  simpa [OneAccess] using h

theorem accessBytes_cpu_long (addr : Long) :
    accessBytes .cpu .l addr = accessBytes .cpu .w addr ++ accessBytes .cpu .w (addr + 2) := rfl

theorem length_accessBytes_w (p : Role) (addr : Long) : (accessBytes p .w addr).length = 2 := rfl

/-- The two words of a CPU long do not overlap. -/
theorem not_mem_second_word {x : Nat} {addr : Long} (h : x ∈ accessBytes .cpu .w addr) :
    x ∉ accessBytes .cpu .w (addr + 2) := by
  have sum : (addr + 2).toNat = (addr.toNat + 2) % 2 ^ 32 := BitVec.toNat_add ..
  simp only [accessBytes, mem_bytesFrom, alignedAddr_eq_div, Size.bytes] at h ⊢
  omega

/-- The address belongs to a readable byte array. -/
def ReadableByte (a : Nat) : Prop := ∃ g, regionAt a = some g ∧ g.backing = .bytes ∧ g.readable = true

/-- The address belongs to a byte array that can be read and written. -/
def StoredByte (a : Nat) : Prop :=
  ∃ g, regionAt a = some g ∧ g.backing = .bytes ∧ g.readable = true ∧ g.writable = true

theorem StoredByte.readable {a : Nat} (h : StoredByte a) : ReadableByte a := by
  obtain ⟨g, hg, hb, hr, -⟩ := h
  exact ⟨g, hg, hb, hr⟩

theorem busRead_bytes {a : Nat} (h : ReadableByte a) (sz : Size) (s : State) :
    busRead sz a s = (s.mem.readAt sz a, s) := by
  obtain ⟨g, hg, hb, hr⟩ := h
  simp only [busRead, hg, hr, if_true, hb]

theorem busWrite_bytes {a : Nat} (h : StoredByte a) (sz : Size) (v : BitVec sz.bits) (s : State) :
    busWrite sz a v s = s.setMem (s.mem.writeAt sz a v) := by
  obtain ⟨g, hg, hb, -, hw⟩ := h
  simp only [busWrite, hg, hw, if_true, hb]

/-! ### Reads of byte arrays -/

section
variable {p : Role} {sz : Size} {addr : Long}

theorem memRead_one_bytes (hp : OneAccess p sz) (h : ∀ a ∈ accessBytes p sz addr, ReadableByte a) (s : State) :
    (memRead p sz addr s).1.toNat = bigEndian ((accessBytes p sz addr).map s.mem.read) ∧
      (memRead p sz addr s).2 = s := by
  rw [accessBytes_one hp] at h ⊢
  rw [memRead_one hp, busRead_bytes (h _ (mem_bytesFrom_self ..))]
  exact ⟨Memory.readAt_toNat .., rfl⟩

/-- A read in byte arrays answers their bytes and changes nothing (R106, R107). -/
theorem memRead_bytes (h : ∀ a ∈ accessBytes p sz addr, ReadableByte a) (s : State) :
    (memRead p sz addr s).1.toNat = bigEndian ((accessBytes p sz addr).map s.mem.read) ∧
      (memRead p sz addr s).2 = s := by
  by_cases hp : OneAccess p sz
  · exact memRead_one_bytes hp h s
  · obtain ⟨rfl, rfl⟩ := not_oneAccess hp
    obtain ⟨h1, h2⟩ := List.forall_mem_append.1 h
    obtain ⟨hi, hs⟩ := memRead_one_bytes (oneAccess_w .cpu) (addr := addr) h1 s
    obtain ⟨lo, ls⟩ := memRead_one_bytes (oneAccess_w .cpu) (addr := addr + 2) h2 s
    simp only [memRead_cpu_long, hs, ls, accessBytes_cpu_long, List.map_append, bigEndian_append, ← hi, ← lo,
      List.length_map, length_accessBytes_w]
    exact ⟨toNat_append_eq .., trivial⟩

end

/-! ### Writes of byte arrays -/

/-- A write of `v` took `s` into `t`: it is read back, and nothing but the bytes of the access differs. -/
structure WroteBytes (p : Role) (sz : Size) (addr : Long) (v : BitVec sz.bits) (s t : State) : Prop where
  readBack : (memRead p sz addr t).1 = v
  onlyMem : t = s.setMem t.mem
  outside : MemSameOutside (accessBytes p sz addr) s t
  canonical : t.mem.wf = true

section
variable {p : Role} {sz : Size} {addr : Long} {s : State} (hw : s.mem.wf = true)
include hw

theorem memWrite_one_bytes (hp : OneAccess p sz) (h : ∀ a ∈ accessBytes p sz addr, StoredByte a)
    (v : BitVec sz.bits) : WroteBytes p sz addr v s (memWrite p sz addr v s) := by
  have self := mem_bytesFrom_self sz (alignedAddr sz addr)
  rw [accessBytes_one hp] at h
  rw [memWrite_one hp, busWrite_bytes (h _ self)]
  refine ⟨?_, rfl, fun x hx => ?_, Memory.wf_writeAt hw ..⟩
  · rw [memRead_one hp, busRead_bytes (h _ self).readable]
    exact Memory.readAt_writeAt hw ..
  · rw [accessBytes_one hp, mem_bytesFrom] at hx
    exact Memory.read_writeAt_outside hw _ _ _ _ (by omega)

/-- A write in byte arrays stores to its own bytes (R106, R107). -/
theorem memWrite_bytes (h : ∀ a ∈ accessBytes p sz addr, StoredByte a) (v : BitVec sz.bits) :
    WroteBytes p sz addr v s (memWrite p sz addr v s) := by
  by_cases hp : OneAccess p sz
  · exact memWrite_one_bytes hw hp h v
  · obtain ⟨rfl, rfl⟩ := not_oneAccess hp
    obtain ⟨h1, h2⟩ := List.forall_mem_append.1 h
    have hi := memWrite_one_bytes hw (oneAccess_w .cpu) (addr := addr) h1 (v.extractLsb' 16 16)
    have lo := memWrite_one_bytes hi.canonical (oneAccess_w .cpu) (addr := addr + 2) h2 (v.extractLsb' 0 16)
    rw [memWrite_cpu_long]
    generalize memWrite .cpu .w addr (v.extractLsb' 16 16) s = t at hi lo
    generalize memWrite .cpu .w (addr + 2) (v.extractLsb' 0 16) t = w at lo
    refine ⟨?_, ?_, fun x hx => ?_, lo.canonical⟩
    · have r1 : ∀ a ∈ accessBytes .cpu .w addr, ReadableByte a := fun a ha => (h1 a ha).readable
      have high : (memRead .cpu .w addr w).1 = v.extractLsb' 16 16 := by
        apply BitVec.eq_of_toNat_eq
        rw [(memRead_bytes r1 w).1, List.map_congr_left fun x hx => lo.outside x (not_mem_second_word hx),
          ← (memRead_bytes r1 t).1, hi.readBack]
      simp only [memRead_cpu_long, (memRead_bytes r1 w).2, high, lo.readBack]
      exact BitVec.extractLsb'_append_extractLsb'
    · rw [lo.onlyMem, hi.onlyMem]
      rfl
    · simp only [accessBytes_cpu_long, List.mem_append, not_or] at hx
      exact (lo.outside x hx.2).trans (hi.outside x hx.1)

end

/-! ### Lines that a device raises -/

/-- `t` is `s` but for the lines of the three processors. -/
def OnlyLines (s t : State) : Prop :=
  t = { s with
    cpuLines := t.cpuLines, gpu := { s.gpu with lines := t.gpu.lines }, dsp := { s.dsp with lines := t.dsp.lines } }

theorem OnlyLines.trans {s t w : State} (h : OnlyLines s t) (g : OnlyLines t w) : OnlyLines s w := by
  unfold OnlyLines at *
  rw [h] at g
  exact g

theorem onlyLines_setLine (p : Role) (k : Nat) (l : Line) (s : State) : OnlyLines s (s.setLine p k l) := by
  rcases p with _ | ⟨_ | _⟩ <;> simp only [State.setLine] <;> split <;> rfl

theorem onlyLines_extRaises (l : List (Role × Nat)) (s : State) : OnlyLines s (extRaises l s) := by
  induction l generalizing s with
  | nil => rfl
  | cons c rest ih => exact (onlyLines_setLine c.1 c.2 _ s).trans (ih _)

/-- The lines that a device raised are pending too (R127, R600). -/
theorem extRaises_pending (l : List (Role × Nat)) (s : State) (p : Role) (k : Nat) :
    ((extRaises l s).line p k).pending = true ↔
      (s.line p k).pending = true ∨ (p, k) ∈ l ∧ k < lineCount p := by
  induction l generalizing s with
  | nil => simp [extRaises]
  | cons c rest ih =>
    obtain ⟨q, j⟩ := c
    rw [extRaises, ih, raiseLine_pending, Bool.or_eq_true, decide_eq_true_eq, List.mem_cons, Prod.mk.injEq, or_assoc]
    refine or_congr_right ⟨?_, ?_⟩
    · rintro (⟨rfl, rfl, hk⟩ | ⟨hr, hk⟩)
      · exact ⟨.inl ⟨rfl, rfl⟩, hk⟩
      · exact ⟨.inr hr, hk⟩
    · rintro ⟨⟨rfl, rfl⟩ | hr, hk⟩
      · exact .inl ⟨rfl, rfl, hk⟩
      · exact .inr ⟨hr, hk⟩

theorem lineCount_eq (p : Role) : lineCount p = if p = .risc .dsp then 6 else 5 := by
  rcases p with _ | ⟨_ | _⟩ <;> rfl

/-! ### Bytes that a device stores -/

theorem inByteArray_iff {a : Nat} : inByteArray a = true ↔ ∃ g, regionAt a = some g ∧ g.backing = .bytes := by
  unfold inByteArray
  split
  next g hg => simp [hg]
  next hn => simp [hn]

theorem extStores_append (l k : List Host.Cell) (m : Memory) : extStores (l ++ k) m = extStores k (extStores l m) := by
  induction l generalizing m with
  | nil => rfl
  | cons c rest ih => exact ih _

theorem extStores_wf {m : Memory} (h : m.wf = true) (l : List Host.Cell) : (extStores l m).wf = true := by
  induction l generalizing m with
  | nil => exact h
  | cons c rest ih =>
    simp only [extStores]
    split
    · exact ih (Memory.wf_write h _ _)
    · exact ih h

/-- A byte that a device does not name, or that lies in no byte array, is as it was (R127). -/
theorem read_extStores_kept {m : Memory} (h : m.wf = true) {l : List Host.Cell} {x : Nat}
    (hx : (∀ c ∈ l, c.1 ≠ x) ∨ inByteArray x = false) : (extStores l m).read x = m.read x := by
  induction l generalizing m with
  | nil => rfl
  | cons c rest ih =>
    have other : (∀ c ∈ rest, c.1 ≠ x) ∨ inByteArray x = false := hx.imp_left fun h => (List.forall_mem_cons.1 h).2
    simp only [extStores]
    split
    next stored =>
      have ne : x ≠ c.1 := by
        rcases hx with hx | hx
        · exact ((List.forall_mem_cons.1 hx).1).symm
        · rintro rfl
          simp [stored] at hx
      rw [ih (Memory.wf_write h _ _) other, Memory.read_write_ne h _ ne]
    next => exact ih h other

/-- A byte of a byte array reads as the device stored it last (R127). -/
theorem read_extStores_last {m : Memory} (h : m.wf = true) {before after : List Host.Cell} {x : Nat} {b : Byte}
    (last : ∀ c ∈ after, c.1 ≠ x) (hx : inByteArray x = true) :
    (extStores (before ++ (x, b) :: after) m).read x = b := by
  have wf := extStores_wf h before
  simp only [extStores_append, extStores, hx, if_true]
  rw [read_extStores_kept (Memory.wf_write wf _ _) (.inl last), Memory.read_write_same wf]

/-! ### Calls of a device's functions -/

/-- `s` with the bytes and the device's own state as a response leaves them, no line raised yet. -/
def afterStores (r : ExtResponse) (s : State) : State :=
  { s with mem := extStores r.stores s.mem, ext := { s.ext with own := r.own } }

theorem extEffect_eq (r : ExtResponse) (s : State) : extEffect r s = extRaises r.raises (afterStores r s) := rfl

theorem afterStores_line (r : ExtResponse) (s : State) (p : Role) (k : Nat) :
    (afterStores r s).line p k = s.line p k := by
  rcases p with _ | ⟨_ | _⟩ <;> rfl

/-- The effect of what a function of ExtDevice answered is all that the call did (R127). -/
theorem deviceDid_extEffect (r : ExtResponse) (s : State) : DeviceDid r s (extEffect r s) := by
  have only : OnlyLines (afterStores r s) (extEffect r s) := onlyLines_extRaises _ _
  have mem : (extEffect r s).mem = extStores r.stores s.mem := by rw [only]; rfl
  have ext : (extEffect r s).ext = { s.ext with own := r.own } := by rw [only]; rfl
  refine ⟨ext, fun hw x b before after g hr last hg hb => ?_, fun hw x hx => ?_, fun p k => ?_, fun p k => ?_, ?_⟩
  · rw [mem, hr]
    exact read_extStores_last hw last (inByteArray_iff.2 ⟨g, hg, hb⟩)
  · rw [mem]
    refine read_extStores_kept hw (hx.imp_right fun none => ?_)
    rw [Bool.eq_false_iff, Ne, inByteArray_iff]
    rintro ⟨g, hg, hb⟩
    exact none g hg hb
  · rw [extEffect_eq, extRaises_sameEnabled, afterStores_line]
  · rw [extEffect_eq, extRaises_pending, afterStores_line, lineCount_eq]
  · rw [mem, ext]
    exact only

section
variable {s : State} {n : Nat} {own : List Nat} (h : s.params.device = .handler n own)
include h

theorem extCall_handler (c : ExtCall) : extCall c s = extEffect (Config.extHandler n c s) s := by
  simp only [extCall, h]

theorem extWrite_handler (unit ua : Nat) (v : Long) :
    extWrite unit ua v s = extEffect (Config.extHandler n (.write ua (atUnit unit v)) s) s := by
  simp only [extWrite, h]

theorem extValue_handler (unit ua : Nat) :
    extValue unit ua s = atUnit unit (Config.extHandler n (.read ua) s).value := by
  simp only [extValue, h]

end

/-! ### Units of ExtDevice -/

/-- The address is that of a unit of ExtDevice of the width of the access (R120, R127). -/
structure ExtUnit (g : Region) (sz : Size) (a : Long) : Prop where
  region : regionAt a.toNat = some g
  backing : g.backing = .ext sz.bytes ∨ (g.backing = .tomRegs ∧ sz = .w ∧ a ≠ 0xF0004E ∧ a ≠ 0xF000E0)
  aligned : a.toNat % sz.bytes = 0

namespace ExtUnit
variable {g : Region} {sz : Size} {a : Long} (h : ExtUnit g sz a)
include h

theorem unit_eq : g.backing.unit = sz.bytes := by
  rcases h.backing with hb | ⟨hb, rfl, -⟩ <;> rw [hb] <;> rfl

theorem ne_byte : sz ≠ .b := by
  rintro rfl
  have none : ∀ g ∈ regions, g.backing ≠ .ext 1 := by decide
  rcases h.backing with hb | ⟨-, e, -⟩
  · exact none g (regionAt_mem h.region) hb
  · cases e

theorem inUnit : InUnit g sz.bytes sz a.toNat 0 := by
  cases sz with
  | b => exact absurd rfl h.ne_byte
  | w | l => exact ⟨h.region, h.unit_eq, by decide, rfl, h.aligned, le_rfl⟩

theorem devRegAt_eq : devRegAt g.backing a.toNat = .ext sz.bytes a.toNat := by
  rcases h.backing with hb | ⟨hb, rfl, hvi, hint⟩
  · rw [hb]
    rfl
  · have vi : a.toNat ≠ 0xF0004E := fun e => hvi (BitVec.eq_of_toNat_eq e)
    have int1 : a.toNat ≠ 0xF000E0 := fun e => hint (BitVec.eq_of_toNat_eq e)
    simp only [hb, devRegAt, vi, int1, if_false]

/-- An access to a unit is one call of the device (R109, R127). -/
theorem memRead_eq {p : Role} (hp : OneAccess p sz) (s : State) : memRead p sz a s =
    ((extValue sz.bytes a.toNat s).setWidth sz.bits, extCall (.read a.toNat) s) := by
  rw [memRead_unit hp h.inUnit, h.devRegAt_eq]
  rfl

theorem memWrite_eq {p : Role} (hp : OneAccess p sz) (v : BitVec sz.bits) (s : State) :
    memWrite p sz a v s = extWrite sz.bytes a.toNat (v.setWidth 32) s := by
  rw [memWrite_unit hp h.inUnit, h.devRegAt_eq]
  rfl

end ExtUnit

section
variable {sz : Size} (hb : sz ≠ .b) {s : State} (ua : Nat)
include hb

/-- The storage of the default device is read and written as memory is (R127). -/
theorem extValue_default (h : s.params.device = .default) :
    (extValue sz.bytes ua s).setWidth sz.bits = s.ext.units.readAt sz ua := by
  cases sz with
  | b => exact absurd rfl hb
  | w =>
    simp only [extValue, h]
    exact (BitVec.setWidth_setWidth_of_le _ (by decide)).trans (BitVec.setWidth_eq _)
  | l =>
    simp only [extValue, h]
    exact BitVec.setWidth_eq _

theorem extWrite_default (h : s.params.device = .default) (v : BitVec sz.bits) :
    extWrite sz.bytes ua (v.setWidth 32) s = { s with ext := { s.ext with units := s.ext.units.writeAt sz ua v } } := by
  have whole : (v.setWidth 32).setWidth sz.bits = v := by
    rw [BitVec.setWidth_setWidth_of_le _ (by cases sz <;> decide), BitVec.setWidth_eq]
  cases sz with
  | b => exact absurd rfl hb
  | w =>
    simp only [extWrite, h]
    exact congrArg (fun w => { s with ext := { s.ext with units := s.ext.units.write16 ua w } }) whole
  | l =>
    simp only [extWrite, h]
    exact congrArg (fun w => { s with ext := { s.ext with units := s.ext.units.write32 ua w } }) whole

/-- The device is told the bits of its unit (R127). -/
theorem atUnit_toNat (v : Long) : (atUnit sz.bytes v).toNat = v.toNat % 2 ^ sz.bits := by
  cases sz with
  | b => exact absurd rfl hb
  | w => exact (BitVec.toNat_and ..).trans (Nat.and_two_pow_sub_one_eq_mod _ 16)
  | l => exact (Nat.mod_eq_of_lt v.isLt).symm

theorem atUnit_setWidth (v : BitVec sz.bits) : atUnit sz.bytes (v.setWidth 32) = v.setWidth 32 := by
  have le : sz.bits ≤ 32 := by cases sz <;> decide
  apply BitVec.eq_of_toNat_eq
  rw [atUnit_toNat hb, BitVec.toNat_setWidth_of_le le, Nat.mod_eq_of_lt v.isLt]

end

/-- The default device answers the last value written to a unit and keeps a write (R127). -/
theorem extUnit_default {p : Role} {sz : Size} (hp : OneAccess p sz) {a : Long} {g : Region} (h : ExtUnit g sz a)
    (v : BitVec sz.bits) {s : State} (hd : s.params.device = .default) (hw : s.ext.units.wf = true) :
    (memRead p sz a (memWrite p sz a v s)).1 = v ∧
      memWrite p sz a v s = { s with ext := (memWrite p sz a v s).ext } ∧
      ∀ x, x ∉ bytesFrom sz a.toNat → (memWrite p sz a v s).ext.units.read x = s.ext.units.read x := by
  rw [h.memWrite_eq hp, extWrite_default h.ne_byte _ hd, h.memRead_eq hp]
  refine ⟨?_, rfl, fun x hx => ?_⟩
  · refine (extValue_default h.ne_byte a.toNat (by exact hd)).trans ?_
    exact Memory.readAt_writeAt hw ..
  · rw [mem_bytesFrom] at hx
    exact Memory.read_writeAt_outside hw _ _ _ _ (by omega)

/-- Another device's function is called once, in the state of the access (R127, log 9). -/
theorem extUnit_handler {p : Role} {sz : Size} (hp : OneAccess p sz) {a : Long} {g : Region} (h : ExtUnit g sz a)
    (v : BitVec sz.bits) {s : State} {n : Nat} {own : List Nat} (hd : s.params.device = .handler n own) :
    let r := Config.extHandler n (.read a.toNat) s
    (memRead p sz a s).1.toNat = r.value.toNat % 2 ^ sz.bits ∧ DeviceDid r s (memRead p sz a s).2 ∧
      DeviceDid (Config.extHandler n (.write a.toNat (v.setWidth 32)) s) s (memWrite p sz a v s) := by
  intro r
  rw [h.memRead_eq hp, h.memWrite_eq hp, extValue_handler hd, extCall_handler hd, extWrite_handler hd,
    atUnit_setWidth h.ne_byte]
  refine ⟨?_, deviceDid_extEffect .., deviceDid_extEffect ..⟩
  rw [BitVec.toNat_setWidth, atUnit_toNat h.ne_byte, Nat.mod_mod]

/-- Settles O5: an access in byte arrays is a read or write of memory, one of an ExtDevice unit is a call of the
device. -/
theorem byteArrayAccess : Obligations.ByteArrayAccess := by
  refine ⟨fun p sz addr s h => memRead_bytes h s, fun p sz addr v s hw h => ?_, fun p sz addr v s hw hd => ?_,
    fun p sz a v s g hg hb ha hp => ?_, fun e s => ?_⟩
  · have wrote := memWrite_bytes hw h v
    have value := memRead_bytes (fun a ha => StoredByte.readable (h a ha)) (memWrite p sz addr v s)
    exact ⟨wrote.readBack, by rw [← value.1, wrote.readBack], wrote.onlyMem, wrote.outside⟩
  · have keeps := memWrite_busKeeps p sz addr v s
    exact ⟨memRead_state p sz addr s hd, (memWrite_outside p sz addr v hd hw).1, keeps.cpu, keeps.sched⟩
  · have unit : ExtUnit g sz a := ⟨hg, hb, ha⟩
    exact ⟨extUnit_default hp unit v, fun n own => extUnit_handler hp unit v⟩
  · refine ⟨extCall_default _, fun n own h => ?_⟩
    rw [extCall_handler h]
    exact deviceDid_extEffect _ s

end Sys2Proof.Machine
end

section
/-! Where an operand is and what finding it changes; `OperandEvaluation` (O8). -/
namespace Sys2Proof.Machine

/-! ### Sums of addresses -/

/-- An address plus a signed displacement, modulo 2^32 (R231). -/
theorem toNat_add_signed (a d : Long) : ((a + d).toNat : Int) = (a.toNat + d.toInt) % 2 ^ 32 := by
  rw [BitVec.toNat_add, BitVec.toInt_eq_toNat_cond]
  split <;> omega

/-- An address plus a displacement that an extension word holds. -/
theorem toNat_add_signExtend {n : Nat} (h : n ≤ 32) (a : Long) (d : BitVec n) :
    ((a + d.signExtend 32).toNat : Int) = (a.toNat + d.toInt) % 2 ^ 32 := by
  rw [toNat_add_signed, BitVec.toInt_signExtend_of_le h]

/-- An address plus the displacement and the index of a brief extension word (R173, R231). -/
theorem toNat_add_index (a i : Long) (x : Half) :
    ((a + indexDisp x + i).toNat : Int) = (a.toNat + (x.setWidth 8).toInt + i.toInt) % 2 ^ 32 := by
  rw [toNat_add_signed, indexDisp, toNat_add_signExtend (by decide), Int.emod_add_emod]

/-! ### The index register -/

theorem indexReg_eq {x : Half} {k : Fin 8} (h : k.val = x.toNat / 2 ^ 12 % 8) : (x.extractLsb' 12 3).toFin = k := by
  apply Fin.ext
  rw [h, BitVec.val_toFin, BitVec.extractLsb'_toNat, Nat.shiftRight_eq_div_pow]

theorem bit15_iff (x : Half) : x.getLsbD 15 = true ↔ 2 ^ 15 ≤ x.toNat := by
  rw [← BitVec.msb_eq_getLsbD_last, BitVec.msb_eq_decide]
  simp

/-- The index register that bits 15:12 name (R173). -/
def indexReg (x : Half) (k : Fin 8) (s : State) : Long := if 2 ^ 15 ≤ x.toNat then s.areg k else s.dreg k

theorem indexValue_eq {x : Half} {k : Fin 8} (h : k.val = x.toNat / 2 ^ 12 % 8) (s : State) :
    indexValue x s = if x.getLsbD 11 then indexReg x k s else ((indexReg x k s).setWidth 16).signExtend 32 := by
  simp only [indexValue, indexReg, indexReg_eq h, bit15_iff]

/-! ### Fetches -/

theorem fetch16_cpu_word {s : State} {g : Region} (hg : regionAt (s.cpu.pc.toNat % 2 ^ 24 / 2 * 2) = some g)
    (he : g.executable = true) : (fetch16 .cpu s).1.toNat =
      (s.mem.read (s.cpu.pc.toNat % 2 ^ 24 / 2 * 2)).toNat * 256 +
        (s.mem.read (s.cpu.pc.toNat % 2 ^ 24 / 2 * 2 + 1)).toNat :=
  fetchWordAt_executable (addr := s.cpu.pc) ((regionAt_congr (by omega)).trans hg) s he

/-- Two words, the first the high half (R174, R231). -/
theorem fetch32_toNat (s : State) : (fetch32 .cpu s).1.toNat =
    (fetch16 .cpu s).1.toNat * 2 ^ 16 + (fetch16 .cpu (fetch16 .cpu s).2).1.toNat := toNat_append_eq ..

/-! ### Postincrement and predecrement -/

theorem eaStep_toNat (r : Fin 8) (sz : Size) :
    (eaStep r sz).toNat = if sz = .b ∧ r = 7 then 2 else sz.bytes := by
  cases sz with
  | b => by_cases h : r = 7 <;> simp [eaStep, h]
  | w | l => rfl

/-- Settles O8: each mode is its arm of `locEA`, and a fetch moves `pc` alone. -/
theorem operandEvaluation : Obligations.OperandEvaluation := by
  intro r sz s f g inc
  have step : (eaStep r sz).toNat = inc := eaStep_toNat r sz
  refine ⟨rfl, rfl, rfl, ?postinc, ?predec, ?disp, ?index, ?absW, ?absL, ?pcDisp, ?pcIndex, ?imm, ?brief,
    fun n => fetch16_cpu_word, rfl, fetch16_cpu_pc s⟩
  case postinc =>
    refine ⟨_, rfl, onlyAreg_setAreg .., ?_⟩
    rw [State.areg_setAreg_self, BitVec.toNat_add, step]
  case predec =>
    refine ⟨_, rfl, onlyAreg_setAreg .., ?_⟩
    rw [State.areg_setAreg_self, ← step, ← BitVec.toNat_add, BitVec.sub_add_cancel]
  case disp => exact ⟨_, rfl, toNat_add_signExtend (by decide) ..⟩
  case index => exact ⟨_, rfl, toNat_add_index ..⟩
  case absW => exact ⟨_, rfl, BitVec.toInt_signExtend_of_le (by decide)⟩
  case absL => exact ⟨_, rfl, fetch32_toNat s⟩
  case pcDisp => exact ⟨_, rfl, toNat_add_signExtend (by decide) ..⟩
  case pcIndex => exact ⟨_, rfl, toNat_add_index ..⟩
  case imm =>
    cases sz with
    | b => exact ⟨_, rfl, (BitVec.toNat_setWidth_of_le (by decide)).trans (BitVec.toNat_setWidth ..)⟩
    | w => exact ⟨_, rfl, BitVec.toNat_setWidth_of_le (by decide)⟩
    | l => exact ⟨_, rfl, (BitVec.toNat_setWidth_of_le (by decide)).trans (fetch32_toNat s)⟩
  case brief =>
    intro x k hk i
    rw [indexValue_eq hk]
    refine ⟨fun long => if_pos long, fun word => ?_⟩
    rw [word]
    exact BitVec.toInt_signExtend_of_le (by decide)

end Sys2Proof.Machine
end

section
/-! Where an instruction and a step stop; `StepNeverFails` (O55). -/
namespace Sys2Proof.Machine

/-! ### The CPU -/

/-- Every instruction of the CPU ends in a next state: each way of `CpuEnds` is one (R612, R615). -/
theorem exec_cpu_next {i : Instr} (hi : i.role = .cpu) (s : State) : ∃ t, exec i s = .next t := by
  have closed : CpuClosed fun _ => True := by constructor <;> intros <;> trivial
  have ends := closed.exec_ends (s := s) i hi trivial
  generalize exec i s = r at ends
  cases ends with
  | done | exception | system => exact ⟨_, rfl⟩

/-! ### The units -/

/-- The three instructions that a delay slot may not hold (R493). -/
def NotInSlot (i : Instr) : Prop :=
  (∃ v a b, i = .rJump v a b) ∨ (∃ v a b, i = .rJr v a b) ∨ ∃ v a, i = .rMovei v a

theorem execSlot_refused {i : Instr} (h : NotInSlot i) (s : State) : execSlot i s = .refused .jumpOrMoveiInSlot := by
  obtain ⟨v, a, b, rfl⟩ | ⟨v, a, b, rfl⟩ | ⟨v, a, rfl⟩ := h <;> rfl

/-- Every other instruction of a unit ends in a next state when it runs in a delay slot (R492). -/
theorem execSlot_next {u : Coproc} {i : Instr} (hi : i.role = .risc u) (h : ¬ NotInSlot i) (s : State) :
    ∃ t, execSlot i s = .next t := by
  cases i <;> cases hi
  case rDiv | rAbs | rSh | rSha =>
    simp only [execSlot, execRDiv, execRAbs, execRSh, execRSha]
    split <;> exact ⟨_, rfl⟩
  case rJump | rJr | rMovei => exact absurd (by simp [NotInSlot]) h
  all_goals exact ⟨_, rfl⟩

/-- Outside a slot an instruction that a slot may hold runs as it does there. -/
theorem exec_eq_execSlot {u : Coproc} {i : Instr} (hi : i.role = .risc u) (h : ¬ NotInSlot i) (s : State) :
    exec i s = execSlot i s := by
  cases i <;> cases hi
  case rJump | rJr | rMovei => exact absurd (by simp [NotInSlot]) h
  all_goals rfl

/-- The condition test of JUMP and JR is the one of R204. -/
theorem riscCond_iff (u : Coproc) (c : BitVec 5) (s : State) : riscCond c (s.risc u) = true ↔ JumpTaken u c s := by
  have nand : ∀ a b : Bool, (!a || !b) = true ↔ ¬ (a = true ∧ b = true) := by decide
  have imp : ∀ a b : Bool, (!a || b) = true ↔ ¬ (a = true ∧ b = false) := by decide
  simp only [riscCond, JumpTaken, Bool.and_eq_true, nand, imp, and_assoc]

/-- A jump: JUMP or JR, taken (R490, R491). -/
def IsTakenJump (u : Coproc) (i : Instr) (s : State) : Prop :=
  ∃ c, ((∃ m, i = .rJump u m c) ∨ ∃ q, i = .rJr u q c) ∧ JumpTaken u c s

/-- The instruction in the delay slot of a jump at `s` (R492). -/
def SlotHolds (u : Coproc) (s : State) (j : Instr) : Prop := decode (.risc u) (fetchWordAt (s.risc u).pc s) = .ok j

theorem forbiddenSlot_iff {u : Coproc} {i : Instr} {s : State} :
    ForbiddenSlot u i s ↔ IsTakenJump u i s ∧ ∃ j, SlotHolds u s j ∧ NotInSlot j := Iff.rfl

/-- A taken jump is its slot and then the target (R490, R491). -/
theorem exec_takenJump {u : Coproc} {i : Instr} {s : State} (h : IsTakenJump u i s) :
    ∃ target, exec i s = jumpTo u target s := by
  obtain ⟨c, ⟨m, rfl⟩ | ⟨q, rfl⟩, taken⟩ := h
  · exact ⟨_, if_pos ((riscCond_iff u c s).2 taken)⟩
  · exact ⟨_, if_pos ((riscCond_iff u c s).2 taken)⟩

/-- The word in the slot is the one at `pc`: charging the jump's own cost moves neither. -/
theorem fetch16_slot (u : Coproc) (s : State) :
    (fetch16 (.risc u) (s.chargeFetched (.risc u))).1 = fetchWordAt (s.risc u).pc s := by
  cases u <;> rfl

theorem jumpTo_refused {u : Coproc} {s : State} {j : Instr} (hj : SlotHolds u s j) (h : NotInSlot j) (target : Long) :
    jumpTo u target s = .refused .jumpOrMoveiInSlot := by
  rw [SlotHolds, ← fetch16_slot] at hj
  simp only [jumpTo, hj, execSlot_refused h]

theorem jumpTo_next {u : Coproc} {s : State} (h : ∀ j, SlotHolds u s j → ¬ NotInSlot j) (target : Long) :
    ∃ t, jumpTo u target s = .next t := by
  simp only [jumpTo]
  split
  next j hj =>
    rw [fetch16_slot] at hj
    obtain ⟨t, ht⟩ := execSlot_next (role_of_decode hj) (h j hj) (fetch16 (.risc u) (s.chargeFetched (.risc u))).2
    exact ⟨t.setRpc u target, by rw [ht]⟩
  next => exact ⟨_, rfl⟩

theorem exec_refused {u : Coproc} {i : Instr} {s : State} (h : ForbiddenSlot u i s) :
    exec i s = .refused .jumpOrMoveiInSlot := by
  obtain ⟨jump, j, hj, slot⟩ := forbiddenSlot_iff.1 h
  obtain ⟨target, e⟩ := exec_takenJump jump
  rw [e, jumpTo_refused hj slot]

/-- A unit's instruction ends in a next state but for a taken jump over a slot of R493. -/
theorem exec_risc_next {u : Coproc} {i : Instr} (hi : i.role = .risc u) {s : State} (h : ¬ ForbiddenSlot u i s) :
    ∃ t, exec i s = .next t := by
  by_cases jump : IsTakenJump u i s
  · obtain ⟨target, e⟩ := exec_takenJump jump
    rw [e]
    exact jumpTo_next (fun j hj slot => h (forbiddenSlot_iff.2 ⟨jump, j, hj, slot⟩)) target
  · by_cases slot : NotInSlot i
    · obtain ⟨v, m, c, rfl⟩ | ⟨v, q, c, rfl⟩ | ⟨v, n, rfl⟩ := slot <;> cases hi
      · exact ⟨s, if_neg fun hc => jump ⟨c, .inl ⟨m, rfl⟩, (riscCond_iff u c s).1 hc⟩⟩
      · exact ⟨s, if_neg fun hc => jump ⟨c, .inr ⟨q, rfl⟩, (riscCond_iff u c s).1 hc⟩⟩
      · exact ⟨_, rfl⟩
    · rw [exec_eq_execSlot hi slot]
      exact execSlot_next hi slot s

/-! ### The step -/

/-- Whether a slot is forbidden does not depend on the CPU and the scratch fields. -/
theorem ForbiddenSlot.of_same {u : Coproc} {i : Instr} {s t : State} (h : Same s t) (f : ForbiddenSlot u i s) :
    ForbiddenSlot u i t := by
  simpa only [ForbiddenSlot, JumpTaken, h.risc, h.fetchWordAt] using f

theorem finish_next {p : Role} {k : State → State} {r : Result} (h : ∃ t, r = .next t) :
    ∃ t, finish p k r = .next t := by
  obtain ⟨t, rfl⟩ := h
  exact ⟨_, rfl⟩

theorem cpuStep_next {s : State} (h : s.cpu.run ≠ .off) : ∃ t, cpuStep s = .next t := by
  simp only [cpuStep]
  split
  · simp only [cpuInstruction]
    split
    · exact ⟨_, rfl⟩
    next i hi => exact finish_next (exec_cpu_next (role_of_decode hi) _)
  · exact ⟨_, rfl⟩
  next off => exact absurd off h

/-- The unit runs and the word at its `pc` is a jump of `ForbiddenSlot`. -/
def RefusedAt (u : Coproc) (s : State) : Prop :=
  (s.risc u).go = true ∧ ∃ i, decode (.risc u) (fetchWordAt (s.risc u).pc s) = .ok i ∧
    ForbiddenSlot u i (s.setRpc u ((s.risc u).pc + 2))

theorem riscStep_cases (u : Coproc) (s : State) :
    (∃ t, riscStep u s = .next t) ∨ (riscStep u s = .refused .jumpOrMoveiInSlot ∧ RefusedAt u s) := by
  have begun : Same s (beginStep s) := same_patch s s.cpu [] 0
  have word : (fetch16 (.risc u) (beginStep s)).1 = fetchWordAt (s.risc u).pc s := by
    rw [← begun.fetchWordAt, ← begun.risc]
    rfl
  have fetched : Same (fetch16 (.risc u) (beginStep s)).2 (s.setRpc u ((s.risc u).pc + 2)) := by
    cases u <;> rfl
  simp only [riscStep, riscInstruction]
  split
  next go =>
    rw [begun.risc] at go
    split
    · exact .inl ⟨_, rfl⟩
    next i hi =>
      by_cases slot : ForbiddenSlot u i (fetch16 (.risc u) (beginStep s)).2
      · rw [exec_refused slot]
        exact .inr ⟨rfl, go, i, word ▸ hi, slot.of_same fetched⟩
      · exact .inl (finish_next (exec_risc_next (role_of_decode hi) slot))
  next => exact .inl ⟨_, rfl⟩

/-- Settles O55: a turn ends in a next state but for the step of a running unit at a forbidden slot. -/
theorem stepNeverFails : Obligations.StepNeverFails := by
  refine ⟨fun s => ⟨fun off => by rw [step, turn_off off], fun on => ?_⟩, fun i s hi => exec_cpu_next hi s,
    fun u i s hi => ⟨exec_refused, exec_risc_next hi⟩⟩
  obtain ⟨p, picked⟩ := exists_picked on
  rw [step, turn_eq on picked]
  split
  · exact .inl ⟨_, rfl⟩
  next early =>
    split
    · exact .inl ⟨_, rfl⟩
    next run =>
      simp only [limitReached, Bool.false_eq_true, if_false]
      cases p with
      | cpu => exact .inl (cpuStep_next (by simpa using on))
      | risc u =>
        rcases riscStep_cases u (afterLines (.risc u) s) with next | ⟨refused, go, slot⟩
        · exact .inl next
        · have next : StepsNext (.risc u) s := ⟨on, picked, Nat.lt_of_not_le early, Bool.eq_false_iff.2 run⟩
          exact .inr ⟨refused, u, next, by simpa using go, slot⟩

end Sys2Proof.Machine
end

section
/-! How an operation word is laid together from fields and read apart again, and which row of an opcode map reads it. -/
namespace Sys2Proof

/-! ### Fields of a word -/

/-- `get` reads a value from the bits of `mask`, where `put` lays it; `ok` are the values it can answer. A word it reads
from matches none of `holes`, each a mask and a pattern. -/
structure Coded {α : Type} (mask : Half) (holes : List (Half × Half)) (get : Half → Option α) (put : α → Half)
    (ok : α → Bool) : Prop where
  reads : ∀ w a, get w = some a ↔ ok a = true ∧ put a = w &&& mask
  within : ∀ a, put a &&& mask = put a
  avoids : ∀ w a, get w = some a → ∀ h ∈ holes, w &&& h.1 ≠ h.2

section
variable {x y m n : Half}

theorem or_and_left (hx : x &&& m = x) (hy : y &&& n = y) (apart : m &&& n = 0) : (x ||| y) &&& m = x := by
  rw [BitVec.and_or_distrib_right, hx, ← hy, BitVec.and_assoc, BitVec.and_comm n, apart]
  simp

theorem or_and_right (hx : x &&& m = x) (hy : y &&& n = y) (apart : m &&& n = 0) : (x ||| y) &&& n = y := by
  rw [BitVec.or_comm]
  exact or_and_left hy hx (by rwa [BitVec.and_comm])

/-- Bits in disjoint places together are the word's own exactly if each of them is. -/
theorem or_eq_and_or_iff (hx : x &&& m = x) (hy : y &&& n = y) (apart : m &&& n = 0) (w : Half) :
    x ||| y = w &&& (m ||| n) ↔ x = w &&& m ∧ y = w &&& n := by
  constructor
  · intro e
    have left := or_and_left hx hy apart
    have right := or_and_right hx hy apart
    rw [e, BitVec.and_assoc] at left right
    rw [or_and_left (by simp) (by simp) apart] at left
    rw [or_and_right (by simp) (by simp) apart] at right
    exact ⟨left.symm, right.symm⟩
  · rintro ⟨rfl, rfl⟩
    exact BitVec.and_or_distrib_left.symm

theorem or_within (hx : x &&& m = x) (hy : y &&& n = y) (apart : m &&& n = 0) : (x ||| y) &&& (m ||| n) = x ||| y :=
  ((or_eq_and_or_iff hx hy apart _).2 ⟨(or_and_left hx hy apart).symm, (or_and_right hx hy apart).symm⟩).symm

end

/-- The fixed bits of a row, and then a field. -/
def fixedThen {α : Type} (mask pattern : Half) (get : Half → Option α) (w : Half) : Option α :=
  if w &&& mask = pattern then get w else none

/-- Two fields, the second of which may depend on what the first one holds. -/
def fieldThen {α β : Type} (get : Half → Option α) (next : α → Half → Option β) (w : Half) : Option (α × β) :=
  (get w).bind fun a => (next a w).map (Prod.mk a)

theorem fieldThen_eq_some {α β : Type} {get : Half → Option α} {next : α → Half → Option β} {w : Half} {x : α × β} :
    fieldThen get next w = some x ↔ get w = some x.1 ∧ next x.1 w = some x.2 := by
  simp only [fieldThen, Option.bind_eq_some_iff, Option.map_eq_some_iff]
  constructor
  · rintro ⟨a, ha, b, hb, rfl⟩
    exact ⟨ha, hb⟩
  · rintro ⟨ha, hb⟩
    exact ⟨x.1, ha, x.2, hb, rfl⟩

namespace Coded
variable {α β : Type} {m n : Half} {holes holes' : List (Half × Half)} {get : Half → Option α} {put : α → Half}
  {ok : α → Bool}

theorem fixed (c : Coded m holes get put ok) {M P : Half} (pattern : P &&& M = P) (apart : M &&& m = 0) :
    Coded (M ||| m) holes (fixedThen M P get) (fun a => P ||| put a) ok where
  reads w a := by
    rw [or_eq_and_or_iff pattern (c.within a) apart, and_left_comm, ← c.reads, eq_comm (a := P), fixedThen,
      Option.ite_none_right_eq_some]
  within a := or_within pattern (c.within a) apart
  avoids w a h := by
    unfold fixedThen at h
    split at h
    · exact c.avoids w a h
    · cases h

theorem next (c : Coded m holes get put ok) {get' : α → Half → Option β} {put' : β → Half} {ok' : α → β → Bool}
    {holes' : List (Half × Half)} (d : ∀ a, Coded n holes' (get' a) put' (ok' a)) (apart : m &&& n = 0) :
    Coded (m ||| n) (holes ++ holes') (fieldThen get get') (fun x => put x.1 ||| put' x.2)
      (fun x => ok x.1 && ok' x.1 x.2) where
  reads w x := by
    rw [or_eq_and_or_iff (c.within x.1) ((d x.1).within x.2) apart, Bool.and_eq_true, and_and_and_comm, ← c.reads,
      ← (d x.1).reads, fieldThen_eq_some]
  within x := or_within (c.within x.1) ((d x.1).within x.2) apart
  avoids w x h := by
    obtain ⟨ha, hb⟩ := fieldThen_eq_some.1 h
    rw [List.forall_mem_append]
    exact ⟨c.avoids w x.1 ha, (d x.1).avoids w x.2 hb⟩

/-- The values of a field read as those of another type. -/
theorem convert (c : Coded m holes get put ok) {get' : Half → Option β} {put' : β → Half} {ok' : β → Bool}
    (f : α → Option β) (g : β → α) (hget : ∀ w, get' w = (get w).bind f) (hput : ∀ b, put' b = put (g b))
    (hf : ∀ a b, f a = some b ↔ ok' b = true ∧ g b = a) (hok : ∀ b, ok' b = true → ok (g b) = true) :
    Coded m holes get' put' ok' where
  reads w b := by
    simp only [hget, hput, Option.bind_eq_some_iff, hf]
    constructor
    · rintro ⟨a, ha, hb, rfl⟩
      exact ⟨hb, ((c.reads w _).1 ha).2⟩
    · rintro ⟨hb, e⟩
      exact ⟨g b, (c.reads w _).2 ⟨hok b hb, e⟩, hb, rfl⟩
  within b := by rw [hput, c.within]
  avoids w b h := by
    rw [hget, Option.bind_eq_some_iff] at h
    obtain ⟨a, ha, -⟩ := h
    exact c.avoids w a ha

/-- The words that a field is never read from, by the values that it can hold. -/
theorem withHoles (c : Coded m [] get put ok) (inside : holes.all (fun h => h.1 &&& m == h.1) = true)
    (values : ∀ a, ok a = true → holes.all (fun h => put a &&& h.1 != h.2) = true) : Coded m holes get put ok where
  reads := c.reads
  within := c.within
  avoids w a ha h hh := by
    obtain ⟨valid, e⟩ := (c.reads w a).1 ha
    have value := List.all_eq_true.1 (values a valid) h hh
    have within := List.all_eq_true.1 inside h hh
    rw [beq_iff_eq] at within
    rwa [bne_iff_ne, e, BitVec.and_assoc, BitVec.and_comm m, within] at value

end Coded

/-! ### The fields of the CPU's words (R171 to R182) -/

theorem at_extract (lo k : Nat) (w : Half) : Enc.at_ lo (w.extractLsb' lo k) = w &&& Enc.at_ lo (BitVec.allOnes k) := by
  apply BitVec.eq_of_getLsbD_eq
  intro i hi
  simp only [Enc.at_, BitVec.getLsbD_shiftLeft, BitVec.getLsbD_setWidth, BitVec.getLsbD_extractLsb', BitVec.getLsbD_and,
    BitVec.getLsbD_allOnes]
  by_cases h : i < lo
  · simp [h]
  · have e : lo + (i - lo) = i := by omega
    rw [e]
    grind

theorem extract_at {lo k : Nat} (h : lo + k ≤ 16) (v : BitVec k) : (Enc.at_ lo v).extractLsb' lo k = v := by
  apply BitVec.eq_of_getLsbD_eq
  intro i hi
  simp only [Enc.at_, BitVec.getLsbD_extractLsb', BitVec.getLsbD_shiftLeft, BitVec.getLsbD_setWidth]
  have : lo + i < 16 := by omega
  have : i < 16 := by omega
  simp [*]

theorem coded_bits {lo k : Nat} {m : Half} (h : lo + k ≤ 16) (hm : Enc.at_ lo (BitVec.allOnes k) = m) :
    Coded m [] (fun w => some (w.extractLsb' lo k)) (Enc.at_ lo) fun _ => true where
  reads w a := by
    rw [← hm, ← at_extract, Option.some_inj]
    exact ⟨fun e => ⟨rfl, e ▸ rfl⟩, fun ⟨_, e⟩ => by rw [← extract_at h a, e, extract_at h]⟩
  within a := by rw [← hm, ← at_extract, extract_at h]
  avoids _ _ _ _ hh := nomatch hh

/-- A register number (R171). -/
theorem coded_reg {lo : Nat} {m : Half} (h : lo + 3 ≤ 16) (hm : Enc.at_ lo (BitVec.allOnes 3) = m) :
    Coded m [] (fun w => some (Field.reg3 lo w)) (Enc.reg lo) fun _ => true :=
  (coded_bits h hm).convert (fun v => some v.toFin) (fun r => BitVec.ofFin r) (fun _ => rfl) (fun _ => rfl)
    (fun v r => by rw [Option.some_inj]; exact ⟨fun e => ⟨rfl, e ▸ rfl⟩, fun ⟨_, e⟩ => e ▸ rfl⟩) (fun _ _ => rfl)

theorem condOf_eq_iff (v : BitVec 4) (c : Cond) : Field.condOf v = c ↔ Enc.condCode c = v := by
  revert v
  cases c <;> decide +kernel

/-- A condition (R182). -/
theorem coded_cond : Coded 0x0F00 [] (fun w => some (Field.cond w)) Enc.cond fun _ => true :=
  (coded_bits (lo := 8) (k := 4) (by decide) rfl).convert (fun v => some (Field.condOf v)) Enc.condCode (fun _ => rfl)
    (fun _ => rfl) (fun v c => by simp [condOf_eq_iff]) (fun _ _ => rfl)

/-- The ordinary size field (R175). -/
theorem coded_size : Coded 0x00C0 [(0x00C0, 0x00C0)] Field.size Enc.size fun _ => true := by
  refine Coded.withHoles ⟨fun w sz => ?_, fun sz => by cases sz <;> rfl, fun _ _ _ _ hh => nomatch hh⟩ rfl
    fun sz _ => by cases sz <;> rfl
  have bits : w &&& 0x00C0 = Enc.at_ 6 (w.extractLsb' 6 2) := (at_extract 6 2 w).symm
  rw [bits, Field.size]
  generalize w.extractLsb' 6 2 = v
  revert v
  cases sz <;> decide +kernel

/-- A field of one bit. -/
theorem coded_bit (k : Nat) {m : Half} (hk : k + 1 ≤ 16) (hm : Enc.at_ k (BitVec.allOnes 1) = m) :
    Coded m [] (fun w => some (w.getLsbD k)) (fun b => Enc.at_ k (BitVec.ofBool b)) fun _ => true := by
  refine (coded_bits hk hm).convert (fun v => some (v.getLsbD 0)) BitVec.ofBool (fun w => by simp) (fun _ => rfl)
    (fun v b => ?_) fun _ _ => rfl
  revert v b
  decide

theorem coded_longSize : Coded 0x0040 [] (fun w => some (Field.longSize w)) Enc.longSize fun _ => true :=
  (coded_bit 6 (by decide) rfl).convert (fun b => some (if b then LongSize.l else .w)) (fun sz => decide (sz = .l))
    (fun _ => rfl) (fun sz => by cases sz <;> rfl) (fun b sz => by cases b <;> cases sz <;> simp) fun _ _ => rfl

/-- The direction bit of MOVEP (R245). -/
theorem coded_movepDir : Coded 0x0080 [] (fun w => some (if w.getLsbD 7 then MovepDir.regToMem else .memToReg))
    Enc.movepDir fun _ => true :=
  (coded_bit 7 (by decide) rfl).convert (fun b => some (if b then MovepDir.regToMem else .memToReg))
    (fun dir => decide (dir = .regToMem)) (fun _ => rfl) (fun dir => by cases dir <;> rfl)
    (fun b dir => by cases b <;> cases dir <;> simp) fun _ _ => rfl

/-- The form bit of ADDX, SUBX, ABCD and SBCD (R265). -/
theorem coded_xmode : Coded 0x0008 [] (fun w => some (Field.xmode w)) Enc.xmode fun _ => true :=
  (coded_bit 3 (by decide) rfl).convert (fun b => some (if b then XMode.predec else .regs))
    (fun mode => decide (mode = .predec)) (fun _ => rfl) (fun mode => by cases mode <;> rfl)
    (fun b mode => by cases b <;> cases mode <;> simp) fun _ _ => rfl

/-- Bit 5 and bits 11:9 of a register shift, from its count (R310). -/
def countBits : ShiftCount → Bool × BitVec 3
  | .imm k => (false, k)
  | .reg r => (true, BitVec.ofFin r)

/-- The count of a register shift (R178, R310). -/
theorem coded_count : Coded 0x0E20 [] (fun w => some (Field.count w)) Enc.count fun _ => true := by
  refine ((coded_bit 5 (by decide) rfl).next (fun _ => coded_bits (lo := 9) (k := 3) (by decide) rfl)
    rfl).convert (fun x => some (if x.1 then ShiftCount.reg x.2.toFin else .imm x.2)) countBits (fun _ => rfl)
    (fun c => by cases c <;> simp [countBits, Enc.count, Enc.reg, Enc.at_]) (fun x c => ?_) fun _ _ => rfl
  obtain ⟨b, v⟩ := x
  cases b <;> cases c <;> simp [countBits, eq_comm]
  exact ⟨fun e => e ▸ rfl, fun e => e ▸ rfl⟩

/-! ### Effective addresses (R172, R176) -/

theorem eaOf_eq_some_iff (mode reg : Fin 8) (e : EA) :
    Field.eaOf mode reg = some e ↔ Enc.eaMode e = mode ∧ Enc.eaReg e = reg := by
  have reads : ∀ mode reg : Fin 8, ∀ e ∈ Field.eaOf mode reg, Enc.eaMode e = mode ∧ Enc.eaReg e = reg := by decide
  constructor
  · exact reads mode reg e
  · rintro ⟨rfl, rfl⟩
    cases e <;> rfl

/-- Words whose `ea` field the class does not allow (R176): those that some other row reads. -/
def eaHoles : EAClass → List (Half × Half)
  | .data => [(0x0038, 0x0008)]
  | .dataNoImm => [(0x0038, 0x0008)]
  | .dataAlt => [(0x0038, 0x0008), (0x003F, 0x003C)]
  | .memAlt => [(0x0030, 0x0000)]
  | .control => [(0x0038, 0x0000)]
  | .controlAltPredec => [(0x0038, 0x0000)]
  | .all => []
  | .alt => []
  | .controlPostinc => []

theorem ea_ne_holes {cls : EAClass} {sz : Size} {e : EA} (h : cls.admits sz e = true) :
    (eaHoles cls).all (fun hole => Enc.ea e &&& hole.1 != hole.2) = true := by
  have modes : ∀ mode reg : Fin 8, ∀ e ∈ Field.eaOf mode reg, cls.admitsMode e = true →
      (eaHoles cls).all (fun hole => Enc.ea e &&& hole.1 != hole.2) = true := by cases cls <;> decide +kernel
  exact modes _ _ e ((eaOf_eq_some_iff _ _ e).2 ⟨rfl, rfl⟩) (Bool.and_eq_true_iff.1 h).1

/-- A field of an effective address: mode and register, in either place (R171, R172). -/
theorem coded_eaAt {m n : Half} {i j : Nat} {cls : EAClass} {sz : Size} {get : Half → Option EA}
    (mode : Coded m [] (fun w => some (Field.reg3 i w)) (Enc.reg i) fun _ => true)
    (reg : Coded n [] (fun w => some (Field.reg3 j w)) (Enc.reg j) fun _ => true) (apart : m &&& n = 0)
    (hget : ∀ w, get w = (Field.eaOf (Field.reg3 i w) (Field.reg3 j w)).filter (cls.admits sz)) :
    Coded (m ||| n) [] get (fun e => Enc.reg i (Enc.eaMode e) ||| Enc.reg j (Enc.eaReg e)) (cls.admits sz) :=
  (mode.next (fun _ => reg) apart).convert (fun x => (Field.eaOf x.1 x.2).filter (cls.admits sz))
    (fun e => (Enc.eaMode e, Enc.eaReg e)) hget (fun _ => rfl)
    (fun x e => by rw [Option.filter_eq_some_iff, eaOf_eq_some_iff, and_comm, Prod.ext_iff]) fun _ _ => rfl

theorem coded_ea (cls : EAClass) (sz : Size) :
    Coded 0x003F (eaHoles cls) (Field.ea cls sz) Enc.ea (cls.admits sz) := by
  refine Coded.withHoles (coded_eaAt (m := 0x0038) (n := 0x0007) (coded_reg (by decide) rfl)
    (coded_reg (by decide) rfl) rfl fun w => ?_) (by cases cls <;> rfl) fun _ h => ea_ne_holes h
  rw [Field.ea]
  cases Field.eaOf (Field.reg3 3 w) (Field.reg3 0 w) <;> simp [Option.filter]

/-- The destination field of MOVE (R171); `An` is MOVEA's (R241). -/
theorem coded_eaDst (sz : Size) :
    Coded 0x0FC0 [(0x01C0, 0x0040)] (Field.eaDst .dataAlt sz) Enc.eaDst (EAClass.dataAlt.admits sz) := by
  refine Coded.withHoles (coded_eaAt (m := 0x01C0) (n := 0x0E00) (coded_reg (by decide) rfl)
    (coded_reg (by decide) rfl) rfl fun w => ?_) rfl fun e h => ?_
  · rw [Field.eaDst]
    cases Field.eaOf (Field.reg3 6 w) (Field.reg3 9 w) <;> simp [Option.filter]
  · have modes : ∀ mode reg : Fin 8, ∀ e ∈ Field.eaOf mode reg, EAClass.dataAlt.admitsMode e = true →
        Enc.eaDst e &&& 0x01C0 ≠ 0x0040 := by decide +kernel
    simpa using modes _ _ e ((eaOf_eq_some_iff _ _ e).2 ⟨rfl, rfl⟩) (Bool.and_eq_true_iff.1 h).1

end Sys2Proof
end

section
/-! The rows of the CPU's opcode map (R180): each shape of row gives the instructions of its form, each for its own encoding. -/
namespace Sys2Proof
open Machine

/-! ### Rows -/

/-- What a row gives for a word: nothing where the fixed bits differ or a constraint fails (R181). -/
def Row.gives (row : Row) : Half → Option Instr := fixedThen row.mask row.pattern row.build

/-- A row gives the well-formed instructions of the form `k`, each for its own encoding, and nothing else. The words it
gives something for match none of `holes`. -/
structure Row.Codes {α : Type} (row : Row) (holes : List (Half × Half)) (k : α → Instr) : Prop where
  gives : ∀ w i, row.gives w = some i ↔ ∃ a, k a = i ∧ i.wellFormed = true ∧ encode i = w
  avoids : ∀ w i, row.gives w = some i → ∀ h ∈ holes, w &&& h.1 ≠ h.2

/-- A row whose fixed bits and field make up the whole word. -/
theorem Coded.row {α : Type} {m M P : Half} {holes : List (Half × Half)} {get : Half → Option α} {put : α → Half}
    {ok : α → Bool} {build : Half → Option Instr} {k : α → Instr} (c : Coded m holes get put ok) (pattern : P &&& M = P)
    (apart : M &&& m = 0) (full : M ||| m = 0xFFFF) (hbuild : ∀ w, build w = (get w).map k)
    (he : ∀ a, encode (k a) = P ||| put a) (hw : ∀ a, (k a).wellFormed = ok a) :
    Row.Codes ⟨M, P, build⟩ holes k := by
  have coded := c.fixed pattern apart
  have gives : ∀ w i, Row.gives ⟨M, P, build⟩ w = some i ↔ ∃ a, fixedThen M P get w = some a ∧ k a = i := fun w i => by
    simp only [Row.gives, fixedThen, Option.ite_none_right_eq_some, hbuild, Option.map_eq_some_iff, and_assoc,
      exists_and_left]
  constructor
  · intro w i
    have whole : w &&& 0xFFFF = w := BitVec.and_allOnes
    rw [gives]
    simp only [coded.reads, full, whole, ← he, ← hw]
    constructor
    · rintro ⟨a, ⟨hw, e⟩, rfl⟩
      exact ⟨a, rfl, hw, e⟩
    · rintro ⟨a, rfl, hw, e⟩
      exact ⟨a, ⟨hw, e⟩, rfl⟩
  · intro w i h
    obtain ⟨a, ha, -⟩ := (gives w i).1 h
    exact coded.avoids w a ha

theorem map_fieldThen {α β γ : Type} (get : Half → Option α) (next : α → Half → Option β) (k : α × β → γ) (w : Half) :
    (fieldThen get next w).map k = (get w).bind fun a => (next a w).map fun b => k (a, b) := by
  rw [fieldThen, Option.map_bind]
  congr
  funext a
  exact Option.map_map ..

/-! ### The rows of the CPU's map, by their shapes (R171, R180) -/

theorem coded_regHigh : Coded 0x0E00 [] (fun w => some (Field.regHigh w)) (Enc.reg 9) fun _ => true :=
  coded_reg (by decide) rfl
theorem coded_regLow : Coded 0x0007 [] (fun w => some (Field.regLow w)) (Enc.reg 0) fun _ => true :=
  coded_reg (by decide) rfl
theorem coded_quick : Coded 0x0E00 [] (fun w => some (Field.quick w)) (Enc.at_ 9) fun _ => true :=
  coded_bits (by decide) rfl
theorem coded_low8 : Coded 0x00FF [] (fun w => some (Field.low8 w)) (Enc.at_ 0) fun _ => true :=
  coded_bits (by decide) rfl

/-- The condition of Bcc: BRA and BSR have the first two codes (R340). -/
theorem coded_bccCond : Coded 0x0F00 [(0x0F00, 0x0000), (0x0F00, 0x0100)]
    (fun w => if Field.cond w = .t ∨ Field.cond w = .f then none else some (Field.cond w)) Enc.cond
    fun c => c != .t && c != .f :=
  (coded_cond.convert (fun c => if c = .t ∨ c = .f then none else some c) id (fun _ => rfl) (fun _ => rfl)
    (fun a c => by grind) fun _ _ => rfl).withHoles rfl fun c => by cases c <;> decide

section
variable {P : Half} {cls : EAClass} {sz : Size}

theorem codes_fixed {i : Instr} (he : encode i = P := by intros; rfl) (hw : i.wellFormed = true := by intros; rfl) :
    Row.Codes ⟨0xFFFF, P, Shape.fixed i⟩ [] fun _ : Unit => i := by
  have none : Coded 0 [] (fun _ => some ()) (fun _ => 0) (fun _ => true) :=
    ⟨fun w a => by simp, fun _ => rfl, fun _ _ _ _ hh => nomatch hh⟩
  exact none.row BitVec.and_allOnes rfl rfl (fun _ => rfl) (fun _ => by simp [he]) fun _ => hw

theorem codes_ea {k : EA → Instr} (he : ∀ e, encode (k e) = P ||| Enc.ea e := by intros; rfl)
    (hw : ∀ e, (k e).wellFormed = cls.admits sz e := by intros; rfl) (hP : P &&& 0xFFC0 = P := by rfl) :
    Row.Codes ⟨0xFFC0, P, Shape.ea cls sz k⟩ (eaHoles cls) k :=
  (coded_ea cls sz).row hP rfl rfl (fun _ => rfl) he hw

theorem codes_sizeEa {k : Size → EA → Instr}
    (he : ∀ sz e, encode (k sz e) = P ||| Enc.size sz ||| Enc.ea e := by intros; rfl)
    (hw : ∀ sz e, (k sz e).wellFormed = cls.admits sz e := by intros; rfl) (hP : P &&& 0xFF00 = P := by rfl) :
    Row.Codes ⟨0xFF00, P, Shape.sizeEa cls k⟩ ((0x00C0, 0x00C0) :: eaHoles cls) fun x : Size × EA => k x.1 x.2 :=
  (coded_size.next (fun sz => coded_ea cls sz) rfl).row hP rfl rfl
    (fun w => by simp only [map_fieldThen, Shape.sizeEa]; cases Field.size w <;> rfl)
    (fun _ => by simp only [he, BitVec.or_assoc]) fun _ => hw _ _

theorem codes_regEa {k : Fin 8 → EA → Instr}
    (he : ∀ r e, encode (k r e) = P ||| Enc.reg 9 r ||| Enc.ea e := by intros; rfl)
    (hw : ∀ r e, (k r e).wellFormed = cls.admits sz e := by intros; rfl) (hP : P &&& 0xF1C0 = P := by rfl) :
    Row.Codes ⟨0xF1C0, P, Shape.regEa cls sz k⟩ (eaHoles cls) fun x : Fin 8 × EA => k x.1 x.2 :=
  (coded_regHigh.next (fun _ => coded_ea cls sz) rfl).row hP rfl rfl (fun w => by rw [map_fieldThen]; rfl)
    (fun _ => by simp only [he, BitVec.or_assoc]) fun _ => hw _ _

theorem codes_regSizeEa {k : Fin 8 → Size → EA → Instr}
    (he : ∀ r sz e, encode (k r sz e) = P ||| Enc.reg 9 r ||| Enc.size sz ||| Enc.ea e := by intros; rfl)
    (hw : ∀ r sz e, (k r sz e).wellFormed = cls.admits sz e := by intros; rfl) (hP : P &&& 0xF100 = P := by rfl) :
    Row.Codes ⟨0xF100, P, Shape.regSizeEa cls k⟩ ((0x00C0, 0x00C0) :: eaHoles cls)
      fun x : Fin 8 × Size × EA => k x.1 x.2.1 x.2.2 :=
  (coded_regHigh.next (fun _ => coded_size.next (fun sz => coded_ea cls sz) rfl) rfl).row hP rfl rfl
    (fun w => by simp only [map_fieldThen, Shape.regSizeEa]; cases Field.size w <;> rfl)
    (fun _ => by simp only [he, BitVec.or_assoc]) fun _ => hw _ _ _

theorem codes_quickSizeEa {k : BitVec 3 → Size → EA → Instr}
    (he : ∀ q sz e, encode (k q sz e) = P ||| Enc.at_ 9 q ||| Enc.size sz ||| Enc.ea e := by intros; rfl)
    (hw : ∀ q sz e, (k q sz e).wellFormed = cls.admits sz e := by intros; rfl) (hP : P &&& 0xF100 = P := by rfl) :
    Row.Codes ⟨0xF100, P, Shape.quickSizeEa cls k⟩ ((0x00C0, 0x00C0) :: eaHoles cls)
      fun x : BitVec 3 × Size × EA => k x.1 x.2.1 x.2.2 :=
  (coded_quick.next (fun _ => coded_size.next (fun sz => coded_ea cls sz) rfl) rfl).row hP rfl rfl
    (fun w => by simp only [map_fieldThen, Shape.quickSizeEa]; cases Field.size w <;> rfl)
    (fun _ => by simp only [he, BitVec.or_assoc]) fun _ => hw _ _ _

theorem codes_move {k : EA → EA → Instr}
    (he : ∀ dst src, encode (k dst src) = P ||| Enc.eaDst dst ||| Enc.ea src := by intros; rfl)
    (hw : ∀ dst src, (k dst src).wellFormed = (EAClass.all.admits sz src && EAClass.dataAlt.admits sz dst) := by
      intros; rfl)
    (hP : P &&& 0xF000 = P := by rfl) :
    Row.Codes ⟨0xF000, P, Shape.move sz k⟩ [(0x01C0, 0x0040)] fun x : EA × EA => k x.1 x.2 :=
  ((coded_eaDst sz).next (fun _ => coded_ea .all sz) rfl).row hP rfl rfl
    (fun w => by
      simp only [map_fieldThen, Shape.move]
      cases Field.ea .all sz w <;> cases Field.eaDst .dataAlt sz w <;> rfl)
    (fun _ => by simp only [he, BitVec.or_assoc]) fun _ => by rw [hw, Bool.and_comm]

theorem codes_movem {k : LongSize → EA → Instr}
    (he : ∀ sz e, encode (k sz e) = P ||| Enc.longSize sz ||| Enc.ea e := by intros; rfl)
    (hw : ∀ sz e, (k sz e).wellFormed = cls.admits sz.toSize e := by intros; rfl) (hP : P &&& 0xFF80 = P := by rfl) :
    Row.Codes ⟨0xFF80, P, Shape.movem cls k⟩ (eaHoles cls) fun x : LongSize × EA => k x.1 x.2 :=
  (coded_longSize.next (fun sz => coded_ea cls sz.toSize) rfl).row hP rfl rfl (fun w => by rw [map_fieldThen]; rfl)
    (fun _ => by simp only [he, BitVec.or_assoc]) fun _ => hw _ _

theorem codes_reg {k : Fin 8 → Instr} (he : ∀ r, encode (k r) = P ||| Enc.reg 0 r := by intros; rfl)
    (hw : ∀ r, (k r).wellFormed = true := by intros; rfl) (hP : P &&& 0xFFF8 = P := by rfl) :
    Row.Codes ⟨0xFFF8, P, Shape.reg k⟩ [] k :=
  coded_regLow.row hP rfl rfl (fun _ => rfl) he hw

theorem codes_regReg {k : Fin 8 → Fin 8 → Instr}
    (he : ∀ x y, encode (k x y) = P ||| Enc.reg 9 x ||| Enc.reg 0 y := by intros; rfl)
    (hw : ∀ x y, (k x y).wellFormed = true := by intros; rfl) (hP : P &&& 0xF1F8 = P := by rfl) :
    Row.Codes ⟨0xF1F8, P, Shape.regReg k⟩ [] fun x : Fin 8 × Fin 8 => k x.1 x.2 :=
  (coded_regHigh.next (fun _ => coded_regLow) rfl).row hP rfl rfl (fun _ => rfl)
    (fun _ => by simp only [he, BitVec.or_assoc]) fun _ => hw _ _

theorem codes_decimal {k : Fin 8 → XMode → Fin 8 → Instr}
    (he : ∀ x mode y, encode (k x mode y) = P ||| Enc.reg 9 x ||| Enc.xmode mode ||| Enc.reg 0 y := by intros; rfl)
    (hw : ∀ x mode y, (k x mode y).wellFormed = true := by intros; rfl) (hP : P &&& 0xF1F0 = P := by rfl) :
    Row.Codes ⟨0xF1F0, P, Shape.decimal k⟩ [] fun x : Fin 8 × XMode × Fin 8 => k x.1 x.2.1 x.2.2 :=
  (coded_regHigh.next (fun _ => coded_xmode.next (fun _ => coded_regLow) rfl) rfl).row hP rfl rfl (fun _ => rfl)
    (fun _ => by simp only [he, BitVec.or_assoc]) fun _ => hw _ _ _

theorem codes_extended {k : Fin 8 → Size → XMode → Fin 8 → Instr}
    (he : ∀ x sz mode y,
      encode (k x sz mode y) = P ||| Enc.reg 9 x ||| Enc.size sz ||| Enc.xmode mode ||| Enc.reg 0 y := by intros; rfl)
    (hw : ∀ x sz mode y, (k x sz mode y).wellFormed = true := by intros; rfl) (hP : P &&& 0xF130 = P := by rfl) :
    Row.Codes ⟨0xF130, P, Shape.extended k⟩ [(0x00C0, 0x00C0)]
      fun x : Fin 8 × Size × XMode × Fin 8 => k x.1 x.2.1 x.2.2.1 x.2.2.2 :=
  (coded_regHigh.next (fun _ => coded_size.next (fun _ => coded_xmode.next (fun _ => coded_regLow) rfl) rfl) rfl).row
    hP rfl rfl (fun w => by simp only [map_fieldThen, Shape.extended]; cases Field.size w <;> rfl)
    (fun _ => by simp only [he, BitVec.or_assoc]) fun _ => hw _ _ _ _

theorem codes_regSizeReg {k : Fin 8 → Size → Fin 8 → Instr}
    (he : ∀ x sz y, encode (k x sz y) = P ||| Enc.reg 9 x ||| Enc.size sz ||| Enc.reg 0 y := by intros; rfl)
    (hw : ∀ x sz y, (k x sz y).wellFormed = true := by intros; rfl) (hP : P &&& 0xF138 = P := by rfl) :
    Row.Codes ⟨0xF138, P, Shape.regSizeReg k⟩ [(0x00C0, 0x00C0)] fun x : Fin 8 × Size × Fin 8 => k x.1 x.2.1 x.2.2 :=
  (coded_regHigh.next (fun _ => coded_size.next (fun _ => coded_regLow) rfl) rfl).row hP rfl rfl
    (fun w => by simp only [map_fieldThen, Shape.regSizeReg]; cases Field.size w <;> rfl)
    (fun _ => by simp only [he, BitVec.or_assoc]) fun _ => hw _ _ _

theorem codes_shift {k : ShiftCount → Size → Fin 8 → Instr}
    (he : ∀ c sz r, encode (k c sz r) = P ||| Enc.count c ||| Enc.size sz ||| Enc.reg 0 r := by intros; rfl)
    (hw : ∀ c sz r, (k c sz r).wellFormed = true := by intros; rfl) (hP : P &&& 0xF118 = P := by rfl) :
    Row.Codes ⟨0xF118, P, Shape.shift k⟩ [(0x00C0, 0x00C0)] fun x : ShiftCount × Size × Fin 8 => k x.1 x.2.1 x.2.2 :=
  (coded_count.next (fun _ => coded_size.next (fun _ => coded_regLow) rfl) rfl).row hP rfl rfl
    (fun w => by simp only [map_fieldThen, Shape.shift]; cases Field.size w <;> rfl)
    (fun _ => by simp only [he, BitVec.or_assoc]) fun _ => hw _ _ _

theorem codes_low8 {k : Byte → Instr} (he : ∀ v, encode (k v) = P ||| Enc.at_ 0 v := by intros; rfl)
    (hw : ∀ v, (k v).wellFormed = true := by intros; rfl) (hP : P &&& 0xFF00 = P := by rfl) :
    Row.Codes ⟨0xFF00, P, fun w => some (k (Field.low8 w))⟩ [] k :=
  coded_low8.row hP rfl rfl (fun _ => rfl) he hw

theorem codes_low12 {k : BitVec 12 → Instr} (he : ∀ v, encode (k v) = P ||| Enc.at_ 0 v := by intros; rfl)
    (hw : ∀ v, (k v).wellFormed = true := by intros; rfl) (hP : P &&& 0xF000 = P := by rfl) :
    Row.Codes ⟨0xF000, P, fun w => some (k (Field.low12 w))⟩ [] k :=
  (coded_bits (m := 0x0FFF) (by decide) rfl).row hP rfl rfl (fun _ => rfl) he hw

theorem codes_trap : Row.Codes ⟨0xFFF0, 0x4E40, fun w => some (.trap (w.extractLsb' 0 4))⟩ [] Instr.trap :=
  (coded_bits (m := 0x000F) (by decide) rfl).row rfl rfl rfl (fun _ => rfl) (fun _ => rfl) fun _ => rfl

theorem codes_moveq : Row.Codes ⟨0xF100, 0x7000, fun w => some (.moveq (Field.regHigh w) (Field.low8 w))⟩ []
    fun x : Fin 8 × Byte => .moveq x.1 x.2 :=
  (coded_regHigh.next (fun _ => coded_low8) rfl).row rfl rfl rfl (fun _ => rfl)
    (fun _ => by simp only [encode, BitVec.or_assoc]) fun _ => rfl

theorem codes_dbcc : Row.Codes ⟨0xF0F8, 0x50C8, fun w => some (.dbcc (Field.cond w) (Field.regLow w))⟩ []
    fun x : Cond × Fin 8 => .dbcc x.1 x.2 :=
  (coded_cond.next (fun _ => coded_regLow) rfl).row rfl rfl rfl (fun _ => rfl)
    (fun _ => by simp only [encode, BitVec.or_assoc]) fun _ => rfl

theorem codes_scc : Row.Codes ⟨0xF0C0, 0x50C0, fun w => (Field.ea .dataAlt .b w).map (.scc (Field.cond w))⟩
    (eaHoles .dataAlt) fun x : Cond × EA => .scc x.1 x.2 :=
  (coded_cond.next (fun _ => coded_ea .dataAlt .b) rfl).row rfl rfl rfl (fun w => by rw [map_fieldThen]; rfl)
    (fun _ => by simp only [encode, BitVec.or_assoc]) fun _ => rfl

theorem codes_bcc : Row.Codes ⟨0xF000, 0x6000, fun w => if Field.cond w = .t ∨ Field.cond w = .f then none else
      some (.bcc (Field.cond w) (Field.low8 w))⟩
    [(0x0F00, 0x0000), (0x0F00, 0x0100)] fun x : Cond × Byte => .bcc x.1 x.2 :=
  (coded_bccCond.next (fun _ => coded_low8) rfl).row rfl rfl rfl
    (fun w => by rw [map_fieldThen]; split <;> rfl)
    (fun _ => by simp only [encode, BitVec.or_assoc]) fun _ => by simp [Instr.wellFormed]

theorem codes_movep : Row.Codes ⟨0xF138, 0x0108, fun w => some (.movep (Field.regHigh w)
      (if w.getLsbD 7 then .regToMem else .memToReg) (Field.longSize w) (Field.regLow w))⟩ []
    fun x : Fin 8 × MovepDir × LongSize × Fin 8 => .movep x.1 x.2.1 x.2.2.1 x.2.2.2 :=
  (coded_regHigh.next (fun _ => coded_movepDir.next (fun _ => coded_longSize.next (fun _ => coded_regLow) rfl) rfl)
    rfl).row rfl rfl rfl (fun _ => rfl) (fun _ => by simp only [encode, BitVec.or_assoc]) fun _ => rfl

end

end Sys2Proof
end

section
/-! The CPU's decoder over its rows, and its agreement with the encoder. -/
namespace Sys2Proof
open Machine

/-! ### The decoder over the rows -/

/-- A row gives only well-formed instructions, each for its own encoding. -/
def Row.Sound (row : Row) : Prop := ∀ w i, row.gives w = some i → i.wellFormed = true ∧ encode i = w

theorem Row.Codes.sound {α : Type} {row : Row} {holes : List (Half × Half)} {k : α → Instr} (c : row.Codes holes k) :
    row.Sound := fun w i h => by
  obtain ⟨_, _, wf, e⟩ := (c.gives w i).1 h
  exact ⟨wf, e⟩

theorem gives_of_firstRow {rows : List Row} {w : Half} {i : Instr} (h : firstRow rows w = some i) :
    ∃ row ∈ rows, row.gives w = some i := by
  induction rows with
  | nil => cases h
  | cons row rest ih =>
    have later : firstRow rest w = some i → ∃ row' ∈ row :: rest, row'.gives w = some i := fun h => by
      obtain ⟨row', mem, gives⟩ := ih h
      exact ⟨row', List.mem_cons_of_mem _ mem, gives⟩
    rw [firstRow] at h
    split at h
    next fits =>
      split at h
      next j build => exact ⟨row, List.mem_cons_self, by rw [Row.gives, fixedThen, if_pos fits, build, h]⟩
      next => exact later h
    next => exact later h

theorem cpuRows_sound : ∀ row ∈ cpuRows, row.Sound := by
  simp only [cpuRows, cpuRows1, cpuRows2, cpuRows3, cpuRows4, cpuRows5, cpuRows6,
    cpuRows7, cpuRows8, cpuRows9, cpuRows10, List.cons_append, List.nil_append, List.forall_mem_cons, List.not_mem_nil,
    false_implies, implies_true, and_true]
  repeat' apply And.intro
  all_goals
    apply_rules [Row.Codes.sound, codes_fixed, codes_ea, codes_sizeEa, codes_regEa, codes_regSizeEa, codes_quickSizeEa,
      codes_move, codes_movem, codes_reg, codes_regReg, codes_decimal, codes_extended, codes_regSizeReg, codes_shift,
      codes_low8, codes_low12, codes_trap, codes_moveq, codes_dbcc, codes_scc, codes_bcc, codes_movep]
  all_goals intros; rfl

/-- A row does not read the words with the fixed bits `pattern` in `mask` that match none of `holes`: a bit differs, or
the bits of both make up a hole. -/
def rulesOut (mask pattern : Half) (holes : List (Half × Half)) (row : Row) : Bool :=
  pattern &&& row.mask != row.pattern &&& mask ||
    holes.any fun h => h.1 &&& (mask ||| row.mask) == h.1 && h.1 &&& (pattern ||| row.pattern) == h.2

theorem ne_pattern_of_rulesOut {mask pattern : Half} {holes : List (Half × Half)} {row : Row}
    (h : rulesOut mask pattern holes row = true) {w : Half} (hw : w &&& mask = pattern)
    (avoids : ∀ hole ∈ holes, w &&& hole.1 ≠ hole.2) : w &&& row.mask ≠ row.pattern := by
  intro fits
  rw [rulesOut, Bool.or_eq_true, bne_iff_ne, List.any_eq_true] at h
  rcases h with differ | ⟨hole, mem, both⟩
  · apply differ
    rw [← hw, ← fits, BitVec.and_assoc, BitVec.and_assoc, BitVec.and_comm mask]
  · obtain ⟨covered, filled⟩ : hole.1 &&& (mask ||| row.mask) = hole.1 ∧
        hole.1 &&& (pattern ||| row.pattern) = hole.2 := by simpa using both
    apply avoids hole mem
    rw [← filled, ← hw, ← fits, ← BitVec.and_or_distrib_left, BitVec.and_comm hole.1, BitVec.and_assoc,
      BitVec.and_comm (mask ||| row.mask), covered]

/-- The first row that may read such words. -/
def firstFit (rows : List Row) (mask pattern : Half) (holes : List (Half × Half)) : Option Row :=
  rows.find? fun row => !rulesOut mask pattern holes row

theorem firstRow_of_firstFit {rows : List Row} {mask pattern : Half} {holes : List (Half × Half)} {row : Row}
    (fit : firstFit rows mask pattern holes = some row) {w : Half} {i : Instr} (hw : w &&& mask = pattern)
    (avoids : ∀ hole ∈ holes, w &&& hole.1 ≠ hole.2) (gives : row.gives w = some i) : firstRow rows w = some i := by
  induction rows with
  | nil => cases fit
  | cons head rest ih =>
    rw [firstFit, List.find?_cons] at fit
    split at fit
    next =>
      obtain rfl := Option.some.inj fit
      obtain ⟨fits, build⟩ := Option.ite_none_right_eq_some.1 gives
      rw [firstRow, if_pos fits, build]
    next out =>
      rw [firstRow, if_neg (ne_pattern_of_rulesOut (by simpa using out) hw avoids), ih fit]

/-- A well-formed instruction is decoded from its own encoding if no row before its own reads such words. -/
theorem decode_of_codes {α : Type} {row : Row} {holes : List (Half × Half)} {k : α → Instr} {i : Instr}
    (form : ∃ a, k a = i) (c : row.Codes holes k) (fit : firstFit cpuRows row.mask row.pattern holes = some row)
    (wf : i.wellFormed = true) : decode .cpu (encode i) = .ok i := by
  obtain ⟨a, rfl⟩ := form
  have gives := (c.gives _ _).2 ⟨a, rfl, wf, rfl⟩
  rw [decode, firstRow_of_firstFit fit (Option.ite_none_right_eq_some.1 gives).1 (c.avoids _ _ gives) gives]

theorem decode_encode_cpu (i : Instr) (hi : i.role = .cpu) (wf : i.wellFormed = true) :
    decode .cpu (encode i) = .ok i := by
  cases i with
  | oriToCcr | oriToSr | andiToCcr | andiToSr | eoriToCcr | eoriToSr | illegal | reset | nop | stop | rte | rts | trapv
  | rtr => exact decode_of_codes ⟨(), rfl⟩ codes_fixed (by rfl) wf
  | ori sz ea | andi sz ea | subi sz ea | addi sz ea | eori sz ea | cmpi sz ea | tst sz ea | negx sz ea | clr sz ea
  | neg sz ea | notEa sz ea => exact decode_of_codes ⟨(sz, ea), rfl⟩ codes_sizeEa (by rfl) wf
  | btstImm ea | bchgImm ea | bclrImm ea | bsetImm ea | jsr ea | jmp ea | pea ea | nbcd ea | tas ea | moveSrEa ea
  | moveEaCcr ea | moveEaSr ea | asrEa ea | aslEa ea | lsrEa ea | lslEa ea | roxrEa ea | roxlEa ea | rorEa ea
  | rolEa ea => exact decode_of_codes ⟨ea, rfl⟩ codes_ea (by rfl) wf
  | btstReg r ea | bchgReg r ea | bclrReg r ea | bsetReg r ea | moveaL r ea | moveaW r ea | chk r ea | lea r ea
  | divu r ea | divs r ea | subaW r ea | subaL r ea | cmpaW r ea | cmpaL r ea | mulu r ea | muls r ea | addaW r ea
  | addaL r ea => exact decode_of_codes ⟨(r, ea), rfl⟩ codes_regEa (by rfl) wf
  | orEaDn r sz ea | orDnEa r sz ea | subEaDn r sz ea | subDnEa r sz ea | cmp r sz ea | eor r sz ea | andEaDn r sz ea
  | andDnEa r sz ea | addEaDn r sz ea | addDnEa r sz ea =>
    exact decode_of_codes ⟨(r, sz, ea), rfl⟩ codes_regSizeEa (by rfl) wf
  | addq q sz ea | subq q sz ea => exact decode_of_codes ⟨(q, sz, ea), rfl⟩ codes_quickSizeEa (by rfl) wf
  | moveB dst src => exact decode_of_codes ⟨(dst, src), rfl⟩ (codes_move (sz := .b)) (by rfl) wf
  | moveL dst src => exact decode_of_codes ⟨(dst, src), rfl⟩ (codes_move (sz := .l)) (by rfl) wf
  | moveW dst src => exact decode_of_codes ⟨(dst, src), rfl⟩ (codes_move (sz := .w)) (by rfl) wf
  | movemRegsEa sz ea | movemEaRegs sz ea => exact decode_of_codes ⟨(sz, ea), rfl⟩ codes_movem (by rfl) wf
  | link r | unlk r | moveAnUsp r | moveUspAn r | swap r | extW r | extL r =>
    exact decode_of_codes ⟨r, rfl⟩ codes_reg (by rfl) wf
  | exgDD x y | exgAA x y | exgDA x y => exact decode_of_codes ⟨(x, y), rfl⟩ codes_regReg (by rfl) wf
  | sbcd x mode y | abcd x mode y => exact decode_of_codes ⟨(x, mode, y), rfl⟩ codes_decimal (by rfl) wf
  | subx x sz mode y | addx x sz mode y =>
    exact decode_of_codes ⟨(x, sz, mode, y), rfl⟩ codes_extended (by rfl) wf
  | cmpm x sz y => exact decode_of_codes ⟨(x, sz, y), rfl⟩ codes_regSizeReg (by rfl) wf
  | asrDn c sz r | aslDn c sz r | lsrDn c sz r | lslDn c sz r | roxrDn c sz r | roxlDn c sz r | rorDn c sz r
  | rolDn c sz r => exact decode_of_codes ⟨(c, sz, r), rfl⟩ codes_shift (by rfl) wf
  | bra disp | bsr disp => exact decode_of_codes ⟨disp, rfl⟩ codes_low8 (by rfl) wf
  | lineA d | lineF d => exact decode_of_codes ⟨d, rfl⟩ codes_low12 (by rfl) wf
  | trap v => exact decode_of_codes ⟨v, rfl⟩ codes_trap (by rfl) wf
  | moveq r data => exact decode_of_codes ⟨(r, data), rfl⟩ codes_moveq (by rfl) wf
  | dbcc c r => exact decode_of_codes ⟨(c, r), rfl⟩ codes_dbcc (by rfl) wf
  | scc c ea => exact decode_of_codes ⟨(c, ea), rfl⟩ codes_scc (by rfl) wf
  | bcc c disp => exact decode_of_codes ⟨(c, disp), rfl⟩ codes_bcc (by rfl) wf
  | movep r dir sz a => exact decode_of_codes ⟨(r, dir, sz, a), rfl⟩ codes_movep (by rfl) wf
  | _ => cases hi

/-- Settles O1: the rows of the map are sound, and no row before an instruction's own reads its encoding. -/
theorem decodeEncodeCpu : Obligations.DecodeEncodeCpu := by
  refine ⟨decode_encode_cpu, fun w i h => ⟨role_of_decode h, ?_⟩⟩
  rw [decode] at h
  split at h
  next j first =>
    obtain rfl := Except.ok.inj h
    obtain ⟨row, mem, gives⟩ := gives_of_firstRow first
    exact cpuRows_sound row mem w _ gives
  next => cases h

end Sys2Proof
end

section
/-! The units' opcode map (R200 to R206): its words, its decoders over their rows, and their agreement with the encoder. -/
namespace Sys2Proof
open Machine

/-! ### The words of the units (R200) -/

/-- A word of a unit with the opcode of `op` and the fields `a` and `b`. -/
def riscWord (op : Half) (a b : BitVec 5) : Half := op ||| Enc.at_ 5 a ||| Enc.at_ 0 b

theorem coded_f1 : Coded 0x03E0 [] (fun w => some (Field.f1 w)) (Enc.at_ 5) fun _ => true := coded_bits (by decide) rfl
theorem coded_f2 : Coded 0x001F [] (fun w => some (Field.f2 w)) (Enc.at_ 0) fun _ => true := coded_bits (by decide) rfl

/-- A word is the one with given fields exactly if it reads so. -/
theorem eq_riscWord_iff {op : Half} (hop : op &&& 0xFC00 = op) (a b : BitVec 5) (w : Half) :
    riscWord op a b = w ↔ w &&& 0xFC00 = op ∧ Field.f1 w = a ∧ Field.f2 w = b := by
  have reads := ((coded_f1.next (fun _ => coded_f2) rfl).fixed hop rfl).reads w (a, b)
  have whole : w &&& (0xFC00 ||| (0x03E0 ||| 0x001F)) = w := BitVec.and_allOnes
  rw [fixedThen, Option.ite_none_right_eq_some, fieldThen_eq_some, Option.some_inj, Option.some_inj, whole,
    ← BitVec.or_assoc] at reads
  exact ⟨fun h => reads.2 ⟨rfl, h⟩, fun h => (reads.1 h).2⟩

section
variable {op : Half} (hop : op &&& 0xFC00 = op) (a b : BitVec 5)
include hop

theorem riscWord_opcode : riscWord op a b &&& 0xFC00 = op := ((eq_riscWord_iff hop a b _).1 rfl).1
theorem f1_riscWord : Field.f1 (riscWord op a b) = a := ((eq_riscWord_iff hop a b _).1 rfl).2.1
theorem f2_riscWord : Field.f2 (riscWord op a b) = b := ((eq_riscWord_iff hop a b _).1 rfl).2.2

end

theorem opcode_and (op : Nat) : BitVec.ofNat 16 (op * 1024) &&& 0xFC00 = BitVec.ofNat 16 (op * 1024) := by
  have bits : Enc.at_ 10 (BitVec.ofNat 6 op) = BitVec.ofNat 16 (op * 1024) := by
    apply BitVec.eq_of_toNat_eq
    simp only [Enc.at_, BitVec.toNat_shiftLeft, BitVec.toNat_setWidth, BitVec.toNat_ofNat, Nat.shiftLeft_eq]
    omega
  rw [← bits]
  exact (coded_bits (lo := 10) (k := 6) (by decide) rfl).within _

/-- The word that `Decodes` writes as a number. -/
theorem ofNat_eq_riscWord {op f1 f2 : Nat} (h1 : f1 < 32) (h2 : f2 < 32) :
    riscWord (BitVec.ofNat 16 (op * 1024)) (BitVec.ofNat 5 f1) (BitVec.ofNat 5 f2) =
      BitVec.ofNat 16 (op * 1024 + f1 * 32 + f2) := by
  refine (eq_riscWord_iff (opcode_and op) _ _ _).2 ⟨?_, ?_, ?_⟩
  · refine (at_extract 10 6 _).symm.trans (BitVec.eq_of_toNat_eq ?_)
    simp only [Enc.at_, BitVec.toNat_shiftLeft, BitVec.toNat_setWidth, BitVec.toNat_ofNat, Nat.shiftLeft_eq,
      BitVec.extractLsb'_toNat, Nat.shiftRight_eq_div_pow]
    omega
  · apply BitVec.eq_of_toNat_eq
    simp only [Field.f1, BitVec.extractLsb'_toNat, BitVec.toNat_ofNat, Nat.shiftRight_eq_div_pow]
    omega
  · apply BitVec.eq_of_toNat_eq
    simp only [Field.f2, BitVec.extractLsb'_toNat, BitVec.toNat_ofNat, Nat.shiftRight_eq_div_pow]
    omega

/-! ### The units' decoders (R203, R206) -/

/-- A unit decodes a word by the first row that may read words with its opcode. -/
theorem decode_riscWord {u : Coproc} {op : Half} {build : Half → Option Instr} {a b : BitVec 5} {i : Instr}
    (fit : firstFit (riscRows u) 0xFC00 op [] = some ⟨0xFC00, op, build⟩) (hop : op &&& 0xFC00 = op)
    (h : build (riscWord op a b) = some i) : decode (.risc u) (riscWord op a b) = .ok i := by
  have opcode := riscWord_opcode hop a b
  have gives : Row.gives ⟨0xFC00, op, build⟩ (riscWord op a b) = some i := Option.ite_none_right_eq_some.2 ⟨opcode, h⟩
  rw [decode, firstRow_of_firstFit fit opcode (fun _ hh => nomatch hh) gives]

/-! A row of a unit builds the instruction of the word's fields. -/

section
variable {op : Half} (hop : op &&& 0xFC00 = op)
include hop

theorem mn_riscWord (k : Fin 32 → Fin 32 → Instr) (m n : Fin 32) :
    Shape.mn k (riscWord op (BitVec.ofFin m) (BitVec.ofFin n)) = some (k m n) := by
  rw [Shape.mn, f1_riscWord hop, f2_riscWord hop]

theorem qn_riscWord (k : BitVec 5 → Fin 32 → Instr) (q : BitVec 5) (n : Fin 32) :
    Shape.qn k (riscWord op q (BitVec.ofFin n)) = some (k q n) := by
  rw [Shape.qn, f1_riscWord hop, f2_riscWord hop]

theorem n_riscWord (k : Fin 32 → Instr) (q : BitVec 5) (n : Fin 32) :
    Shape.n k (riscWord op q (BitVec.ofFin n)) = some (k n) := by
  rw [Shape.n, f2_riscWord hop]

end

section
variable {u : Coproc} {op : Half}

theorem decode_mn {k : Fin 32 → Fin 32 → Instr} (m n : Fin 32)
    (fit : firstFit (riscRows u) 0xFC00 op [] = some ⟨0xFC00, op, Shape.mn k⟩ := by cases u <;> rfl)
    (hop : op &&& 0xFC00 = op := by rfl) :
    decode (.risc u) (riscWord op (BitVec.ofFin m) (BitVec.ofFin n)) = .ok (k m n) :=
  decode_riscWord fit hop (mn_riscWord hop k m n)

theorem decode_qn {k : BitVec 5 → Fin 32 → Instr} (q : BitVec 5) (n : Fin 32)
    (fit : firstFit (riscRows u) 0xFC00 op [] = some ⟨0xFC00, op, Shape.qn k⟩ := by cases u <;> rfl)
    (hop : op &&& 0xFC00 = op := by rfl) :
    decode (.risc u) (riscWord op q (BitVec.ofFin n)) = .ok (k q n) :=
  decode_riscWord fit hop (qn_riscWord hop k q n)

theorem decode_n {k : Fin 32 → Instr} (q : BitVec 5) (n : Fin 32)
    (fit : firstFit (riscRows u) 0xFC00 op [] = some ⟨0xFC00, op, Shape.n k⟩ := by cases u <;> rfl)
    (hop : op &&& 0xFC00 = op := by rfl) :
    decode (.risc u) (riscWord op q (BitVec.ofFin n)) = .ok (k n) :=
  decode_riscWord fit hop (n_riscWord hop k q n)

theorem decode_fixed {i : Instr} (a b : BitVec 5)
    (fit : firstFit (riscRows u) 0xFC00 op [] = some ⟨0xFC00, op, Shape.fixed i⟩ := by cases u <;> rfl)
    (hop : op &&& 0xFC00 = op := by rfl) :
    decode (.risc u) (riscWord op a b) = .ok i :=
  decode_riscWord fit hop rfl

theorem decode_jump (m : Fin 32) (c : BitVec 5) :
    decode (.risc u) (riscWord 0xD000 (BitVec.ofFin m) c) = .ok (.rJump u m c) :=
  decode_riscWord (build := fun w => some (.rJump u (Field.f1 w).toFin (Field.f2 w))) (by cases u <;> rfl) rfl
    (by rw [f1_riscWord rfl, f2_riscWord rfl])

theorem decode_jr (q c : BitVec 5) : decode (.risc u) (riscWord 0xD400 q c) = .ok (.rJr u q c) :=
  decode_riscWord (build := fun w => some (.rJr u (Field.f1 w) (Field.f2 w))) (by cases u <;> rfl) rfl
    (by rw [f1_riscWord rfl, f2_riscWord rfl])

/-- PACK is opcode 63 with `f1 = 0` (R503). -/
theorem decode_pack (n : Fin 32) : decode (.risc .gpu) (riscWord 0xFC00 0 (BitVec.ofFin n)) = .ok (.gPack n) := by
  have pattern : riscWord 0xFC00 0 (BitVec.ofFin n) &&& 0xFFE0 = 0xFC00 :=
    or_and_left (m := 0xFFE0) rfl (coded_f2.within _) rfl
  have gives : Row.gives ⟨0xFFE0, 0xFC00, Shape.n .gPack⟩ (riscWord 0xFC00 0 (BitVec.ofFin n)) = some (.gPack n) :=
    Option.ite_none_right_eq_some.2 ⟨pattern, n_riscWord rfl ..⟩
  rw [decode, firstRow_of_firstFit (holes := []) rfl pattern (fun _ hh => nomatch hh) gives]

/-- UNPACK is opcode 63 with any other `f1` (R504). -/
theorem decode_unpack {q : BitVec 5} (hq : q ≠ 0) (n : Fin 32) :
    decode (.risc .gpu) (riscWord 0xFC00 q (BitVec.ofFin n)) = .ok (.gUnpack n) := by
  have opcode := riscWord_opcode (op := 0xFC00) rfl q (BitVec.ofFin n)
  have f1 : riscWord 0xFC00 q (BitVec.ofFin n) &&& 0x03E0 ≠ 0 := fun e => by
    have zero := (coded_f1.reads (riscWord 0xFC00 q (BitVec.ofFin n)) 0).2 ⟨rfl, e.symm⟩
    rw [f1_riscWord rfl] at zero
    exact hq (Option.some.inj zero)
  have gives : Row.gives ⟨0xFC00, 0xFC00, Shape.n .gUnpack⟩ (riscWord 0xFC00 q (BitVec.ofFin n)) = some (.gUnpack n) :=
    Option.ite_none_right_eq_some.2 ⟨opcode, n_riscWord rfl ..⟩
  rw [decode, firstRow_of_firstFit (holes := [(0x03E0, 0)]) rfl opcode (by simpa using f1) gives]

end

theorem riscWord_zero (op : Half) (b : BitVec 5) : riscWord op 0 b = op ||| Enc.at_ 0 b := by simp [riscWord, Enc.at_]

/-- The encoder leaves an ignored field 0 (R205). -/
theorem decode_n_zero {u : Coproc} {op : Half} {k : Fin 32 → Instr} (n : Fin 32)
    (fit : firstFit (riscRows u) 0xFC00 op [] = some ⟨0xFC00, op, Shape.n k⟩ := by cases u <;> rfl)
    (hop : op &&& 0xFC00 = op := by rfl) : decode (.risc u) (op ||| Enc.rreg 0 n) = .ok (k n) :=
  riscWord_zero op (BitVec.ofFin n) ▸ decode_n 0 n fit hop

theorem decode_fixed_zero {u : Coproc} {op : Half} {i : Instr}
    (fit : firstFit (riscRows u) 0xFC00 op [] = some ⟨0xFC00, op, Shape.fixed i⟩ := by cases u <;> rfl)
    (hop : op &&& 0xFC00 = op := by rfl) : decode (.risc u) op = .ok i := by
  have zero : riscWord op 0 0 = op := by simp [riscWord, Enc.at_]
  exact zero ▸ decode_fixed 0 0 fit hop

/-- A unit's instruction is decoded from its own encoding. -/
theorem decode_encode_risc (u : Coproc) (i : Instr) (hi : i.role = .risc u) : decode (.risc u) (encode i) = .ok i := by
  cases i with
  | rAdd _ m n | rAddc _ m n | rSub _ m n | rSubc _ m n | rAnd _ m n | rOr _ m n | rXor _ m n | rMult _ m n
  | rImult _ m n | rImultn _ m n | rImacn _ m n | rDiv _ m n | rSh _ m n | rSha _ m n | rRor _ m n | rCmp _ m n
  | rMove _ m n | rMoveta _ m n | rMovefa _ m n | rLoadb _ m n | rLoadw _ m n | rLoad _ m n | rStoreb _ m n
  | rStorew _ m n | rStore _ m n | rMmult _ m n | rMtoi _ m n | rNormi _ m n | rLoadR14m _ m n | rLoadR15m _ m n
  | rStoreR14m _ m n | rStoreR15m _ m n => cases hi; exact decode_mn m n
  | gLoadp m n | gStorep m n => cases hi; exact decode_mn m n rfl
  | rAddq _ q n | rAddqt _ q n | rSubq _ q n | rSubqt _ q n | rBtst _ q n | rBset _ q n | rBclr _ q n | rShlq _ q n
  | rShrq _ q n | rSharq _ q n | rRorq _ q n | rCmpq _ q n | rMoveq _ q n | rLoadR14q _ q n | rLoadR15q _ q n
  | rStoreR14q _ q n | rStoreR15q _ q n => cases hi; exact decode_qn q n
  | dSubqmod q n | dAddqmod q n => cases hi; exact decode_qn q n rfl
  | rNeg _ n | rNot _ n | rResmac _ n | rAbs _ n | rMovei _ n | rMovePc _ n => cases hi; exact decode_n_zero n
  | gSat8 n | gSat16 n | dSat16s n | dSat32s n | dMirror n | gSat24 n => cases hi; exact decode_n_zero n rfl
  | rJump _ m c => cases hi; exact decode_jump m c
  | rJr _ q c => cases hi; exact decode_jr q c
  | rNop _ => cases hi; exact decode_fixed_zero (op := 0xE400)
  | dReserved62 => cases hi; exact decode_fixed_zero rfl
  | gPack n => cases hi; exact (congrArg _ (riscWord_zero 0xFC00 _).symm).trans (decode_pack n)
  | gUnpack n => cases hi; exact decode_unpack (q := 1) (by decide) n
  | _ => cases hi

/-! ### Every word decodes on a unit (R206) -/

/-- A row of a unit: it builds an instruction from every word, one with the row's opcode. -/
def Row.Total (row : Row) : Prop := ∀ w, ∃ i, row.build w = some i ∧ encode i &&& 0xFC00 = row.pattern

section
variable {mask op : Half}

theorem total_mn {k : Fin 32 → Fin 32 → Instr}
    (he : ∀ m n, encode (k m n) = riscWord op (BitVec.ofFin m) (BitVec.ofFin n)) (hop : op &&& 0xFC00 = op) :
    Row.Total ⟨mask, op, Shape.mn k⟩ := fun _ => ⟨_, rfl, he _ _ ▸ riscWord_opcode hop _ _⟩

theorem total_qn {k : BitVec 5 → Fin 32 → Instr} (he : ∀ q n, encode (k q n) = riscWord op q (BitVec.ofFin n))
    (hop : op &&& 0xFC00 = op) : Row.Total ⟨mask, op, Shape.qn k⟩ :=
  fun _ => ⟨_, rfl, he _ _ ▸ riscWord_opcode hop _ _⟩

theorem total_n {k : Fin 32 → Instr} (he : ∀ n, encode (k n) = op ||| Enc.rreg 0 n) (hop : op &&& 0xFC00 = op) :
    Row.Total ⟨mask, op, Shape.n k⟩ :=
  fun _ => ⟨_, rfl, he _ ▸ riscWord_zero op _ ▸ riscWord_opcode hop _ _⟩

theorem total_fixed {i : Instr} (he : encode i = op) (hop : op &&& 0xFC00 = op) :
    Row.Total ⟨mask, op, Shape.fixed i⟩ := fun _ => ⟨_, rfl, he ▸ hop⟩

theorem total_unpack : Row.Total ⟨0xFC00, 0xFC00, Shape.n .gUnpack⟩ :=
  fun _ => ⟨_, rfl, riscWord_opcode (op := 0xFC00) rfl 1 _⟩

theorem total_jump {u : Coproc} :
    Row.Total ⟨0xFC00, 0xD000, fun w => some (.rJump u (Field.f1 w).toFin (Field.f2 w))⟩ :=
  fun _ => ⟨_, rfl, riscWord_opcode rfl _ _⟩

theorem total_jr {u : Coproc} : Row.Total ⟨0xFC00, 0xD400, fun w => some (.rJr u (Field.f1 w) (Field.f2 w))⟩ :=
  fun _ => ⟨_, rfl, riscWord_opcode rfl _ _⟩

end

theorem riscRows_total (u : Coproc) : ∀ row ∈ riscRows u, row.Total := by
  cases u
  all_goals
    simp only [riscRows, bothRows, bothRows1, bothRows2, bothRows3, bothRows4, bothRows5, gpuRows, gpuRows1, dspRows,
      dspRows1, List.cons_append, List.nil_append, List.forall_mem_cons, List.not_mem_nil, false_implies, implies_true,
      and_true]
    repeat' apply And.intro
    all_goals apply_rules [total_unpack, total_mn, total_qn, total_n, total_fixed, total_jump, total_jr]
    all_goals intros; rfl

/-- The fixed bits of every row hold the whole opcode. -/
theorem riscRows_opcode (u : Coproc) :
    ∀ row ∈ riscRows u, row.mask &&& 0xFC00 = 0xFC00 ∧ row.pattern &&& 0xFC00 = row.pattern := by
  have all : (riscRows u).all (fun row =>
      row.mask &&& 0xFC00 == 0xFC00 && row.pattern &&& 0xFC00 == row.pattern) = true := by cases u <;> rfl
  simpa using all

/-- Each of the 64 opcodes is a row's (R203). -/
theorem riscRows_cover (u : Coproc) (op : BitVec 6) :
    ∃ row ∈ riscRows u, row.mask = 0xFC00 ∧ row.pattern = Enc.at_ 10 op := by
  have all : (List.range 64).all (fun op => (riscRows u).any fun row =>
      row.mask == 0xFC00 && row.pattern == Enc.at_ 10 (BitVec.ofNat 6 op)) = true := by
    cases u <;> decide +kernel
  simpa using List.all_eq_true.1 all op.toNat (List.mem_range.2 op.isLt)

theorem firstRow_total {rows : List Row} (total : ∀ row ∈ rows, row.Total) {w : Half}
    (reads : ∃ row ∈ rows, w &&& row.mask = row.pattern) : ∃ i, firstRow rows w = some i := by
  induction rows with
  | nil => simp at reads
  | cons row rest ih =>
    obtain ⟨head, tail⟩ := List.forall_mem_cons.1 total
    rw [firstRow]
    split
    next =>
      obtain ⟨i, build, -⟩ := head w
      exact ⟨i, by rw [build]⟩
    next misfit =>
      rw [List.exists_mem_cons_iff] at reads
      exact ih tail (reads.resolve_left misfit)

theorem opcode_eq_iff (v w : Half) : v &&& 0xFC00 = w &&& 0xFC00 ↔ v.extractLsb' 10 6 = w.extractLsb' 10 6 := by
  have bits (x : Half) : x &&& 0xFC00 = Enc.at_ 10 (x.extractLsb' 10 6) := (at_extract 10 6 x).symm
  rw [bits, bits]
  exact ⟨fun e => by rw [← extract_at (lo := 10) (by decide) (v.extractLsb' 10 6), e, extract_at (by decide)],
    fun e => by rw [e]⟩

/-- Every word is an instruction of the unit with the word's opcode (R206). -/
theorem decode_risc_total (u : Coproc) (w : Half) : ∃ i, decode (.risc u) w = .ok i ∧ i.role = .risc u ∧
    (encode i).extractLsb' 10 6 = w.extractLsb' 10 6 := by
  obtain ⟨row, mem, mask, pattern⟩ := riscRows_cover u (w.extractLsb' 10 6)
  have fits : w &&& row.mask = row.pattern := by
    rw [mask, pattern]
    exact (at_extract 10 6 w).symm
  obtain ⟨i, first⟩ := firstRow_total (riscRows_total u) ⟨row, mem, fits⟩
  have decoded : decode (.risc u) w = .ok i := by rw [decode, first]
  refine ⟨i, decoded, role_of_decode decoded, (opcode_eq_iff ..).1 ?_⟩
  obtain ⟨row, mem, gives⟩ := gives_of_firstRow first
  obtain ⟨fits, build⟩ := Option.ite_none_right_eq_some.1 gives
  obtain ⟨wide, whole⟩ := riscRows_opcode u row mem
  obtain ⟨j, built, opcode⟩ := riscRows_total u row mem w
  obtain rfl := Option.some.inj (build.symm.trans built)
  rw [opcode, ← whole, ← fits, BitVec.and_assoc, wide]

/-! ### The opcode map row by row (R203, R205) -/

theorem decodes_of_riscWord {u : Coproc} {op : Nat} {a b : BitVec 5} {i : Instr}
    (h : decode (.risc u) (riscWord (BitVec.ofNat 16 (op * 1024)) a b) = .ok i) : Decodes u op a.toNat b.toNat i := by
  rw [Decodes, ← ofNat_eq_riscWord a.isLt b.isLt]
  simpa using h

/-- An instruction whose fields are both its own. -/
theorem decodes_encode {u : Coproc} {op : Nat} {i : Instr} (a b : BitVec 5)
    (hi : i.role = .risc u := by rfl) (he : encode i = riscWord (BitVec.ofNat 16 (op * 1024)) a b := by rfl) :
    Decodes u op a.toNat b.toNat i :=
  decodes_of_riscWord (he ▸ decode_encode_risc u i hi)

theorem decodes_mn {u : Coproc} {op : Nat} {i : Instr} (m n : Fin 32) (hi : i.role = .risc u := by rfl)
    (he : encode i = riscWord (BitVec.ofNat 16 (op * 1024)) (BitVec.ofFin m) (BitVec.ofFin n) := by rfl) :
    Decodes u op m n i :=
  decodes_encode (.ofFin m) (.ofFin n) hi he

theorem decodes_qn {u : Coproc} {op : Nat} {i : Instr} (q : BitVec 5) (n : Fin 32) (hi : i.role = .risc u := by rfl)
    (he : encode i = riscWord (BitVec.ofNat 16 (op * 1024)) q (BitVec.ofFin n) := by rfl) :
    Decodes u op q.toNat n i :=
  decodes_encode q (.ofFin n) hi he

/-- An instruction whose row ignores `f1` (R205). -/
theorem decodes_n {u : Coproc} {op : Nat} {k : Fin 32 → Instr} (q : BitVec 5) (n : Fin 32)
    (fit : firstFit (riscRows u) 0xFC00 (BitVec.ofNat 16 (op * 1024)) [] =
      some ⟨0xFC00, BitVec.ofNat 16 (op * 1024), Shape.n k⟩) : Decodes u op q.toNat n (k n) :=
  decodes_of_riscWord (b := .ofFin n) (decode_n q n fit (opcode_and op))

section
variable (u : Coproc) (q : BitVec 5) (n : Fin 32)

theorem decodes_rNeg : Decodes u 8 q.toNat n (.rNeg u n) := decodes_n q n (by cases u <;> rfl)
theorem decodes_rNot : Decodes u 12 q.toNat n (.rNot u n) := decodes_n q n (by cases u <;> rfl)
theorem decodes_rResmac : Decodes u 19 q.toNat n (.rResmac u n) := decodes_n q n (by cases u <;> rfl)
theorem decodes_rAbs : Decodes u 22 q.toNat n (.rAbs u n) := decodes_n q n (by cases u <;> rfl)
theorem decodes_rMovei : Decodes u 38 q.toNat n (.rMovei u n) := decodes_n q n (by cases u <;> rfl)
theorem decodes_rMovePc : Decodes u 51 q.toNat n (.rMovePc u n) := decodes_n q n (by cases u <;> rfl)
theorem decodes_rNop : Decodes u 57 q.toNat n (.rNop u) :=
  decodes_of_riscWord (b := .ofFin n) (decode_fixed q _ (by cases u <;> rfl))
theorem decodes_gSat8 : Decodes .gpu 32 q.toNat n (.gSat8 n) := decodes_n q n rfl
theorem decodes_gSat16 : Decodes .gpu 33 q.toNat n (.gSat16 n) := decodes_n q n rfl
theorem decodes_gSat24 : Decodes .gpu 62 q.toNat n (.gSat24 n) := decodes_n q n rfl
theorem decodes_gPack : Decodes .gpu 63 0 n (.gPack n) := 
  decodes_of_riscWord (a := 0) (b := .ofFin n) (decode_pack n)
theorem decodes_gUnpack (hq : q ≠ 0) : Decodes .gpu 63 q.toNat n (.gUnpack n) :=
  decodes_of_riscWord (b := .ofFin n) (decode_unpack hq n)
theorem decodes_dSat16s : Decodes .dsp 33 q.toNat n (.dSat16s n) := decodes_n q n rfl
theorem decodes_dSat32s : Decodes .dsp 42 q.toNat n (.dSat32s n) := decodes_n q n rfl
theorem decodes_dMirror : Decodes .dsp 48 q.toNat n (.dMirror n) := decodes_n q n rfl
theorem decodes_dReserved62 : Decodes .dsp 62 q.toNat n .dReserved62 :=
  decodes_of_riscWord (b := .ofFin n) (decode_fixed q _ rfl)

end

/-- Settles O2: a row that names both fields is the instruction's own encoding; the rows that ignore a field are read
with any value there. -/
theorem decodeEncodeRisc : Obligations.DecodeEncodeRisc := by
  refine ⟨fun u i hi _ => decode_encode_risc u i hi, decode_risc_total, fun u m n q c => ?_⟩
  exact
    ⟨decodes_mn m n, decodes_mn m n, decodes_qn q n, decodes_qn q n, decodes_mn m n, decodes_mn m n, decodes_qn q n,
    decodes_qn q n, decodes_rNeg u q n, decodes_mn m n, decodes_mn m n, decodes_mn m n, decodes_rNot u q n,
    decodes_qn q n, decodes_qn q n, decodes_qn q n, decodes_mn m n, decodes_mn m n, decodes_mn m n,
    decodes_rResmac u q n, decodes_mn m n, decodes_mn m n, decodes_rAbs u q n, decodes_mn m n, decodes_qn q n,
    decodes_qn q n, decodes_mn m n, decodes_qn q n, decodes_mn m n, decodes_qn q n, decodes_mn m n, decodes_qn q n,
    decodes_mn m n, decodes_qn q n, decodes_mn m n, decodes_mn m n, decodes_rMovei u q n, decodes_mn m n,
    decodes_mn m n, decodes_mn m n, decodes_qn q n, decodes_qn q n, decodes_mn m n, decodes_mn m n, decodes_mn m n,
    decodes_qn q n, decodes_qn q n, decodes_rMovePc u q n, decodes_mn m n, decodes_mn m n, decodes_mn m n,
    decodes_rNop u q n, decodes_mn m n, decodes_mn m n, decodes_mn m n, decodes_mn m n,
    decodes_encode (.ofFin m) c, decodes_encode q c, decodes_gSat8 q n, decodes_gSat16 q n,
    decodes_mn m n, decodes_mn m n, decodes_gSat24 q n, decodes_gPack n, decodes_gUnpack q n, decodes_qn q n,
    decodes_dSat16s q n, decodes_dSat32s q n, decodes_dMirror q n, decodes_dReserved62 q n, decodes_qn q n⟩

end Sys2Proof
end

section
/-! The signs behind the overflow flag, and the conditions after a comparison as orders of its operands. -/
namespace Sys2Proof.Machine

/-- The signed value of a bit vector against its unsigned one. -/
theorem toInt_cases {m : Nat} (y : BitVec (m + 1)) :
    (y.toInt = y.toNat ∨ y.toInt = y.toNat - 2 * (2 ^ m : Nat)) ∧
      -(2 ^ m : Nat) ≤ y.toInt ∧ y.toInt < (2 ^ m : Nat) := by
  have value := y.toInt_eq_toNat_cond
  have bound := y.isLt
  rw [pow_succ'] at bound value
  split at value <;> omega

theorem addResult_cases {m : Nat} (s d : BitVec (m + 1)) (x : Bool) :
    (addResult s d x).toNat = d.toNat + s.toNat + x.toNat ∨
      (addResult s d x).toNat + 2 * 2 ^ m = d.toNat + s.toNat + x.toNat := by
  have bounds : d.toNat < 2 * 2 ^ m ∧ s.toNat < 2 * 2 ^ m := by simp only [← pow_succ', d.isLt, s.isLt, and_self]
  have carry := x.toNat_le
  rw [(added s d x).result, pow_succ']
  rcases Nat.lt_or_ge (d.toNat + s.toNat + x.toNat) (2 * 2 ^ m) with fits | wraps
  · exact .inl (Nat.mod_eq_of_lt fits)
  · rw [Nat.mod_eq_sub_mod wraps, Nat.mod_eq_of_lt (by omega)]
    omega

theorem subResult_cases {m : Nat} (s d : BitVec (m + 1)) (x : Bool) :
    ((subResult s d x).toNat : Int) = d.toNat - s.toNat - x.toNat ∨
      ((subResult s d x).toNat : Int) = d.toNat - s.toNat - x.toNat + 2 * (2 ^ m : Nat) := by
  have bounds : d.toNat < 2 * 2 ^ m ∧ s.toNat < 2 * 2 ^ m := by simp only [← pow_succ', d.isLt, s.isLt, and_self]
  have borrow := x.toNat_le
  have result := (subtracted s d x).result
  have modulus : (2 ^ (m + 1) : Int) = 2 * (2 ^ m : Nat) := by push_cast; exact pow_succ' ..
  rw [modulus] at result
  rcases Int.lt_or_le (d.toNat - s.toNat - x.toNat : Int) 0 with wraps | fits
  · rw [← Int.add_emod_right, Int.emod_eq_of_lt (by omega) (by omega)] at result
    exact .inr result
  · rw [Int.emod_eq_of_lt fits (by omega)] at result
    exact .inl result

theorem fitsSigned_succ (m : Nat) (v : Int) : FitsSigned (m + 1) v ↔ -(2 ^ m : Nat) ≤ v ∧ v < (2 ^ m : Nat) := by
  simp [FitsSigned]

/-- Overflow of an addition: operands of one sign, a result of the other (R260). -/
theorem addFlags_v_iff {n : Nat} (s d : BitVec n) (x : Bool) (hn : 0 < n) :
    (addFlags s d x).v = true ↔ s.msb = d.msb ∧ (addResult s d x).msb ≠ d.msb := by
  obtain ⟨m, rfl⟩ := Nat.exists_eq_succ_of_ne_zero hn.ne'
  have result := addResult_cases s d x
  have carry := x.toNat_le
  have hs := toInt_cases s
  have hd := toInt_cases d
  have hr := toInt_cases (addResult s d x)
  simp only [(added s d x).overflow, fitsSigned_succ, BitVec.msb_eq_toInt, ne_eq, decide_eq_decide]
  omega

/-- Overflow of a subtraction: operands of two signs, a result of the source's (R260). -/
theorem subFlags_v_iff {n : Nat} (s d : BitVec n) (x : Bool) (hn : 0 < n) :
    (subFlags s d x).v = true ↔ s.msb ≠ d.msb ∧ (subResult s d x).msb ≠ d.msb := by
  obtain ⟨m, rfl⟩ := Nat.exists_eq_succ_of_ne_zero hn.ne'
  have result := subResult_cases s d x
  have borrow := x.toNat_le
  have hs := toInt_cases s
  have hd := toInt_cases d
  have hr := toInt_cases (subResult s d x)
  simp only [(subtracted s d x).overflow, fitsSigned_succ, BitVec.msb_eq_toInt, ne_eq, decide_eq_decide]
  omega

/-! ### After a comparison (R182, R271) -/

section
variable {n : Nat} (s d : BitVec n) (old : Ccr)

theorem cmpFlags_c_iff : (cmpFlags s d old).c = true ↔ d.toNat < s.toNat := (subtracted s d false).borrow

theorem cmpFlags_z_iff : (cmpFlags s d old).z = true ↔ d = s := by
  have diff : subResult s d false = d - s := by
    apply BitVec.eq_of_toInt_eq
    rw [BitVec.toInt_sub, d.toInt_eq_toNat_bmod, s.toInt_eq_toNat_bmod]
    simp [subResult]
  have z : (cmpFlags s d old).z = (subResult s d false == 0#n) := rfl
  rw [z, diff, beq_iff_eq]
  exact sub_eq_zero

/-- N and V together are the sign of the difference that no width cuts. -/
theorem cmpFlags_n_ne_v_iff (hn : 0 < n) : (cmpFlags s d old).n ≠ (cmpFlags s d old).v ↔ d.toInt < s.toInt := by
  have n : (cmpFlags s d old).n = (subResult s d false).msb := rfl
  have v : (cmpFlags s d old).v = (subFlags s d false).v := rfl
  obtain ⟨m, rfl⟩ := Nat.exists_eq_succ_of_ne_zero hn.ne'
  have result : _ ∨ _ := subResult_cases s d false
  have hs := toInt_cases s
  have hd := toInt_cases d
  have hr := toInt_cases (subResult s d false)
  rw [Bool.toNat_false] at result
  rw [n, v, Ne, Bool.eq_iff_iff]
  simp only [(subtracted s d false).overflow, fitsSigned_succ, BitVec.msb_eq_toInt,
    decide_eq_true_eq, Bool.toNat_false]
  omega

end

/-- Settles O27: overflow by the halves the operands and the result lie in; the conditions by C, Z and N ≠ V. -/
theorem flagLaws : Obligations.FlagLaws := by
  refine ⟨fun n s d x hn => ⟨addFlags_v_iff s d x hn, subFlags_v_iff s d x hn, rfl, rfl, rfl, rfl, fun _ =>
    ⟨rfl, rfl, rfl⟩⟩, fun n s d old hn => ?_⟩
  have c := cmpFlags_c_iff s d old
  have z := cmpFlags_z_iff s d old
  have lt := cmpFlags_n_ne_v_iff s d old hn
  have eq : d = s ↔ d.toNat = s.toNat := BitVec.toNat_inj.symm
  have eqInt : d = s ↔ d.toInt = s.toInt := BitVec.toInt_inj.symm
  refine ⟨z, ?_, ?_, ?_, ?_, c, ?_, ?_, ?_, ?_, rfl, rfl, rfl, rfl, rfl, rfl⟩ <;> grind [condHolds]

end Sys2Proof.Machine
end

section
/-! JUMP and JR: the slot's instruction, run as outside a slot, and then the target. -/
namespace Sys2Proof.Machine

theorem slotHolds_of_decode {u : Coproc} {s : State} {i : Instr}
    (h : decode (.risc u) (fetch16 (.risc u) (s.chargeFetched (.risc u))).1 = .ok i) : SlotHolds u s i := by
  rwa [SlotHolds, ← fetch16_slot]

/-- A jump over a slot that R493 allows: the slot's instruction whole, and then `pc` (R490, R492). -/
theorem jumpTo_eq {u : Coproc} {s : State} {i : Instr}
    (h : decode (.risc u) (fetch16 (.risc u) (s.chargeFetched (.risc u))).1 = .ok i) (allowed : ¬ NotInSlot i)
    (target : Long) :
    ∃ t, exec i (fetch16 (.risc u) (s.chargeFetched (.risc u))).2 = .next t ∧
      jumpTo u target s = .next (t.setRpc u target) := by
  have role := role_of_decode h
  obtain ⟨t, ht⟩ := execSlot_next role allowed (fetch16 (.risc u) (s.chargeFetched (.risc u))).2
  refine ⟨t, (exec_eq_execSlot role allowed _).trans ht, ?_⟩
  simp only [jumpTo, h, ht]

section
variable {u : Coproc} {c : BitVec 5} {s : State}

theorem execRJump_taken (taken : JumpTaken u c s) (m : Fin 32) :
    exec (.rJump u m c) s = jumpTo u (s.rreg u m) s := if_pos ((riscCond_iff u c s).2 taken)

theorem execRJr_taken (taken : JumpTaken u c s) (q : BitVec 5) :
    exec (.rJr u q c) s = jumpTo u ((s.risc u).pc + s5 q <<< 1) s := if_pos ((riscCond_iff u c s).2 taken)

theorem execRJump_untaken (untaken : ¬ JumpTaken u c s) (m : Fin 32) : exec (.rJump u m c) s = .next s :=
  if_neg fun h => untaken ((riscCond_iff u c s).1 h)

theorem execRJr_untaken (untaken : ¬ JumpTaken u c s) (q : BitVec 5) : exec (.rJr u q c) s = .next s :=
  if_neg fun h => untaken ((riscCond_iff u c s).1 h)

theorem setRpc_pc_toNat (x : Long) : ((s.setRpc u x).risc u).pc.toNat = x.toNat / 2 * 2 := by
  rw [State.setRpc, State.setRisc_risc, evenAddr_toNat]

end

/-- The offset of JR counts words (R491). -/
theorem s5_words_toInt (q : BitVec 5) : (s5 q <<< 1).toInt = 2 * q.toInt := by
  revert q
  decide +kernel

/-- Settles O43: JUMP and JR are `jumpTo` of their targets, which runs a slot that R493 allows and refuses the
others. -/
theorem jumpAndDelaySlot : Obligations.JumpAndDelaySlot := by
  intro u m q c s i
  refine ⟨fun untaken => ⟨execRJump_untaken untaken m, execRJr_untaken untaken q⟩, fun taken hi =>
    ⟨fun ⟨jump, jr, movei⟩ => ?_, fun slot => ?_⟩⟩
  · have allowed : ¬ NotInSlot i := by
      rintro (⟨v, a, b, e⟩ | ⟨v, a, b, e⟩ | ⟨v, a, e⟩)
      · exact jump v a b e
      · exact jr v a b e
      · exact movei v a e
    have runs (target : Long) := jumpTo_eq hi allowed target
    constructor
    · obtain ⟨t, slot, e⟩ := runs (s.rreg u m)
      exact ⟨t, _, _, slot, (execRJump_taken taken m).trans e, rfl, rfl, setRpc_pc_toNat _⟩
    · obtain ⟨t, slot, e⟩ := runs ((s.risc u).pc + s5 q <<< 1)
      exact ⟨t, _, _, slot, (execRJr_taken taken q).trans e, s5_words_toInt q ▸ toNat_add_signed _ _, rfl,
        setRpc_pc_toNat _⟩
  · rw [execRJump_taken taken, execRJr_taken taken]
    exact ⟨jumpTo_refused (slotHolds_of_decode hi) slot _, jumpTo_refused (slotHolds_of_decode hi) slot _⟩

end Sys2Proof.Machine
end

section
/-! MOVEM: the registers of the mask as a list, loaded and stored one after another. -/
namespace Sys2Proof.Machine

/-! ### The registers of a mask (R179) -/

/-- Where an element stands among those that a filter of a range keeps: after those below it. -/
theorem idxOf_filter_range (p : Nat → Bool) {n i : Nat} (hi : i < n) (h : p i = true) :
    ((List.range n).filter p).idxOf i = ((List.range i).filter p).length := by
  induction n with
  | zero => omega
  | succ n ih =>
    rw [List.range_succ, List.filter_append]
    rcases Nat.lt_succ_iff_lt_or_eq.1 hi with below | rfl
    · rw [List.idxOf_append_of_mem (by simp [below, h]), ih below]
    · rw [List.idxOf_append_of_notMem (by simp)]
      simp [h]

theorem idxOf_maskBits {mask : Half} {i : Nat} (hi : i < 16) (h : mask.getLsbD i = true) :
    (maskBits mask).idxOf i = maskRank mask i := idxOf_filter_range _ hi h

theorem mem_maskBits {mask : Half} {i : Nat} : i ∈ maskBits mask ↔ i < 16 ∧ mask.getLsbD i = true := by
  simp [maskBits]

theorem nodup_maskBits (mask : Half) : (maskBits mask).Nodup := List.nodup_range.filter _

/-- A register of the MOVEM order after a write: the one written, or as it was. -/
theorem movemReg_setMovemReg {i j : Nat} (hi : i < 16) (hj : j < 16) (v : Long) (s : State) :
    movemReg i (setMovemReg j v s) = if i = j then v else movemReg i s := by
  unfold movemReg setMovemReg
  by_cases di : i < 8 <;> by_cases dj : j < 8
  · simp [di, dj, State.dreg_setDreg, eq_comm]
  · simp [di, dj, hj, show i ≠ j by omega]
  · simp [di, dj, hi, show i ≠ j by omega]
  · simp [di, dj, hi, hj, State.areg_setAreg, show (j - 8 = i - 8) = (i = j) from propext (by omega)]

theorem setMovemReg_areg (r : Fin 8) (v : Long) (s : State) : setMovemReg (r.val + 8) v s = s.setAreg r v := by
  simp [setMovemReg]

/-! ### Loads -/

/-- `t` is `s` but for CPU registers, the status register and `pc` kept. -/
structure RegsOnly (s t : State) : Prop where
  cpu : OnlyCpu s t
  sr : t.cpu.sr = s.cpu.sr
  pc : t.cpu.pc = s.cpu.pc

theorem RegsOnly.refl (s : State) : RegsOnly s s := ⟨rfl, rfl, rfl⟩

theorem RegsOnly.trans {s t w : State} (h : RegsOnly s t) (g : RegsOnly t w) : RegsOnly s w where
  cpu := by
    have tw := g.cpu
    rw [h.cpu] at tw
    exact tw
  sr := g.sr.trans h.sr
  pc := g.pc.trans h.pc

theorem RegsOnly.same {s t : State} (h : RegsOnly s t) : Same s t := by
  have only := h.cpu
  rw [only]
  rfl

theorem regsOnly_setAreg (r : Fin 8) (v : Long) (s : State) : RegsOnly s (s.setAreg r v) where
  cpu := by
    unfold OnlyCpu State.setAreg
    split <;> [rfl; split <;> rfl]
  sr := State.setAreg_cpu_sr ..
  pc := State.setAreg_cpu_pc ..

theorem regsOnly_setMovemReg (i : Nat) (v : Long) (s : State) : RegsOnly s (setMovemReg i v s) := by
  unfold setMovemReg
  split
  · exact ⟨rfl, rfl, rfl⟩
  · split
    · exact regsOnly_setAreg ..
    · exact .refl s

/-- The `k`-th operand of a MOVEM from `a` upward, at 32 bits. -/
def loadedOperand (sz : LongSize) (a : Long) (s : State) (k : Nat) : Long :=
  signed32 sz (memRead .cpu sz.toSize (a + BitVec.ofNat 32 (sz.toSize.bytes * k)) s).1

/-- What a MOVEM load from `a` of the registers `l` takes `s` into. -/
structure Loaded (sz : LongSize) (l : List Nat) (a : Long) (s : State) (d : Long × State) : Prop where
  after : d.1 = a + BitVec.ofNat 32 (sz.toSize.bytes * l.length)
  regs : ∀ i, i < 16 → movemReg i d.2 = if i ∈ l then loadedOperand sz a s (l.idxOf i) else movemReg i s
  rest : RegsOnly s d.2

theorem loaded_movemLoad (sz : LongSize) {l : List Nat} (inOrder : ∀ i ∈ l, i < 16) (nodup : l.Nodup) (a : Long)
    {s : State} (hd : s.defaultDevices) : Loaded sz l a s (movemLoad sz l a s) := by
  induction l generalizing a s with
  | nil => exact ⟨by simp [movemLoad], fun i _ => by simp [movemLoad], .refl s⟩
  | cons j rest ih =>
    obtain ⟨hj, inOrder⟩ := List.forall_mem_cons.1 inOrder
    obtain ⟨fresh, nodup⟩ := List.nodup_cons.1 nodup
    have first := regsOnly_setMovemReg j (signed32 sz (memRead .cpu sz.toSize a s).1) s
    rw [movemLoad, memRead_state _ _ _ _ hd]
    have later := ih inOrder nodup (a + BitVec.ofNat 32 sz.toSize.bytes) (first.same.defaultDevices hd)
    have next (k : Nat) : a + BitVec.ofNat 32 sz.toSize.bytes + BitVec.ofNat 32 (sz.toSize.bytes * k) =
        a + BitVec.ofNat 32 (sz.toSize.bytes * (k + 1)) := by
      rw [BitVec.add_assoc, ← BitVec.ofNat_add, Nat.mul_succ, Nat.add_comm sz.toSize.bytes]
    refine ⟨?_, fun i hi => ?_, first.trans later.rest⟩
    · rw [later.after, next, List.length_cons]
    · rw [later.regs i hi, movemReg_setMovemReg hi hj]
      by_cases e : i = j
      · subst e
        simp [fresh, loadedOperand]
      · simp only [List.mem_cons, e, false_or, List.idxOf_cons_ne _ (Ne.symm e), loadedOperand, next, if_false,
          first.same.memRead hd]

/-- A load through `(An)+`, whose register takes the address after the last operand (R244). -/
theorem execMovemEaRegs_postinc (sz : LongSize) (r : Fin 8) (s : State) :
    let m := fetch16 .cpu s
    let d := movemLoad sz (maskBits m.1) (s.areg r) m.2
    exec (.movemEaRegs sz (.postinc r)) s = .next (d.2.setAreg r d.1) := rfl

theorem execMovemEaRegs_other (sz : LongSize) {ea : EA} (h : ∀ r, ea ≠ .postinc r) (s : State) :
    let m := fetch16 .cpu s
    let l := addrEA ea m.2
    exec (.movemEaRegs sz ea) s = .next (movemLoad sz (maskBits m.1) l.1 l.2).2 := by
  cases ea with
  | postinc r => exact absurd rfl (h r)
  | _ => rfl

/-- The registers after a load of a mask's registers (R179). -/
theorem Loaded.reg {sz : LongSize} {mask : Half} {a : Long} {s : State} {d : Long × State}
    (h : Loaded sz (maskBits mask) a s d) {i : Nat} (hi : i < 16) :
    movemReg i d.2 = if mask.getLsbD i then loadedOperand sz a s (maskRank mask i) else movemReg i s := by
  rw [h.regs i hi]
  by_cases b : mask.getLsbD i = true
  · rw [if_pos (mem_maskBits.2 ⟨hi, b⟩), if_pos b, idxOf_maskBits hi b]
  · rw [if_neg fun mem => b (mem_maskBits.1 mem).2, if_neg b]

end Sys2Proof.Machine

namespace Sys2Proof
open Machine

/-- Settles O12: the load of the mask's registers one by one, by the default devices with no other effect, and for
`(An)+` one more register write. -/
theorem movemLoad : Obligations.MovemLoad := by
  intro sz ea s hd m l operand
  have fetched : Same s m.2 := same_fetch16 s
  have bits : ∀ i ∈ maskBits m.1, i < 16 := fun i hi => (mem_maskBits.1 hi).1
  constructor
  · rintro r rfl
    have d := loaded_movemLoad sz bits (nodup_maskBits m.1) (s.areg r) (fetched.defaultDevices hd)
    have rest := d.rest.trans (regsOnly_setAreg r (Machine.movemLoad sz (maskBits m.1) (s.areg r) m.2).1 _)
    refine ⟨_, execMovemEaRegs_postinc sz r s, ?_, fun i hi other => ?_, rest.cpu, rest.sr, rest.pc,
      memKept_of_mem fun _ => rest.same.mem⟩
    · rw [State.areg_setAreg_self, d.after, BitVec.toNat_add, BitVec.toNat_ofNat, Nat.add_mod_mod]
      rfl
    · rw [← setMovemReg_areg, movemReg_setMovemReg hi (by omega), if_neg other, d.reg hi]
      rfl
  · intro other
    have moved : Same m.2 l.2 := same_locEA ea .l m.2
    have d := loaded_movemLoad sz bits (nodup_maskBits m.1) l.1 ((fetched.trans moved).defaultDevices hd)
    refine ⟨_, execMovemEaRegs_other sz other s, fun i hi => d.reg hi, d.rest.cpu, d.rest.sr.trans (locEA_sr ea .l m.2),
      d.rest.pc, memKept_of_mem fun _ => d.rest.same.mem.trans (fetched.trans moved).mem⟩

end Sys2Proof
end

section
/-! MOVEM to memory: operands stored one after another in main RAM, upward or downward. -/
namespace Sys2Proof.Machine

/-- A value depends on its own bytes only. -/
theorem Memory.readAt_congr {m m' : Memory} {sz : Size} {a : Nat}
    (h : ∀ b, a ≤ b → b < a + sz.bytes → m'.read b = m.read b) : m'.readAt sz a = m.readAt sz a := by
  apply BitVec.eq_of_toNat_eq
  rw [Memory.readAt_toNat, Memory.readAt_toNat, List.map_congr_left fun b hb => ?_]
  rw [mem_bytesFrom] at hb
  exact h b (by omega) (by omega)

/-- A word or a long that the CPU stores at an even address of main RAM. -/
theorem memWrite_ram (sz : LongSize) {a : Long} (even : a.toNat % 2 = 0) (h : a.toNat + sz.toSize.bytes ≤ 0x200000)
    (v : BitVec sz.toSize.bits) (s : State) :
    memWrite .cpu sz.toSize a v s = s.setMem (s.mem.writeAt sz.toSize a.toNat v) := by
  cases sz with
  | w => exact memWrite_w_ram (by simp only [Size.bytes] at h; omega) even v s
  | l => exact memWrite_l_ram (by simp only [Size.bytes] at h; omega) even v s

/-- `m'` is `m` with an operand stored at `place i` for each `i` of `l`; no byte changed but those from `lo` up to
`hi`. -/
structure Stored (sz : LongSize) (l : List Nat) (value : Nat → Long) (place : Nat → Nat) (lo hi : Nat) (m m' : Memory) :
    Prop where
  operand : ∀ i ∈ l, m'.readAt sz.toSize (place i) = (value i).setWidth _
  kept : ∀ b, b < lo ∨ hi ≤ b → m'.read b = m.read b

/-- One operand stored, and then the others beside it. -/
theorem Stored.cons {sz : LongSize} {rest : List Nat} {value : Nat → Long} {place place' : Nat → Nat}
    {lo hi lo' hi' i p : Nat} {m m' : Memory} (wf : m.wf = true)
    (later : Stored sz rest value place lo hi (m.writeAt sz.toSize p ((value i).setWidth _)) m')
    (first : place' i = p) (others : ∀ j, j ≠ i → place' j = place j) (apart : p + sz.toSize.bytes ≤ lo ∨ hi ≤ p)
    (within : lo' ≤ lo ∧ hi ≤ hi' ∧ lo' ≤ p ∧ p + sz.toSize.bytes ≤ hi') :
    Stored sz (i :: rest) value place' lo' hi' m m' where
  operand j hj := by
    by_cases e : j = i
    · subst e
      rw [first, Memory.readAt_congr fun b _ _ => later.kept b (by omega), Memory.readAt_writeAt wf]
    · rw [others j e]
      exact later.operand j (List.mem_of_ne_of_mem e hj)
  kept b hb := by
    rw [later.kept b (by omega)]
    exact Memory.read_writeAt_outside wf _ _ _ _ (by omega)

theorem stored_movemStoreUp (sz : LongSize) (l : List Nat) {a : Long} {s : State} (wf : s.mem.wf = true)
    (even : a.toNat % 2 = 0) (h : a.toNat + sz.toSize.bytes * l.length ≤ 0x200000) :
    ∃ m', movemStoreUp sz l a s = s.setMem m' ∧
      Stored sz l (movemReg · s) (fun i => a.toNat + sz.toSize.bytes * l.idxOf i) a.toNat
        (a.toNat + sz.toSize.bytes * l.length) s.mem m' := by
  induction l generalizing a s with
  | nil => exact ⟨s.mem, rfl, nofun, fun _ _ => rfl⟩
  | cons i rest ih =>
    rw [List.length_cons, Nat.mul_succ] at h
    have parity : sz.toSize.bytes % 2 = 0 := by cases sz <;> rfl
    have next : (a + BitVec.ofNat 32 sz.toSize.bytes).toNat = a.toNat + sz.toSize.bytes := by
      rw [BitVec.toNat_add, BitVec.toNat_ofNat]
      omega
    rw [movemStoreUp, memWrite_ram sz even (by omega)]
    obtain ⟨m', e, later⟩ := ih (s := s.setMem (s.mem.writeAt sz.toSize a.toNat ((movemReg i s).setWidth _)))
      (a := a + BitVec.ofNat 32 sz.toSize.bytes) (Memory.wf_writeAt wf ..) (by omega) (by omega)
    refine ⟨m', e, later.cons wf (by simp) (fun j hj => ?_) (by omega) ?_⟩
    · rw [List.idxOf_cons_ne _ (Ne.symm hj), next, Nat.mul_succ]
      omega
    · rw [List.length_cons, Nat.mul_succ]
      omega

theorem stored_movemStoreDown (sz : LongSize) (l : List Nat) {a : Long} {s : State} (wf : s.mem.wf = true)
    (even : a.toNat % 2 = 0) (low : sz.toSize.bytes * l.length ≤ a.toNat) (high : a.toNat ≤ 0x200000) :
    ∃ m', (movemStoreDown sz l a s).2 = s.setMem m' ∧
      (movemStoreDown sz l a s).1.toNat = a.toNat - sz.toSize.bytes * l.length ∧
      Stored sz l (fun i => movemReg (15 - i) s) (fun i => a.toNat - sz.toSize.bytes * (l.idxOf i + 1))
        (a.toNat - sz.toSize.bytes * l.length) a.toNat s.mem m' := by
  induction l generalizing a s with
  | nil => exact ⟨s.mem, rfl, by simp [movemStoreDown], nofun, fun _ _ => rfl⟩
  | cons i rest ih =>
    rw [List.length_cons, Nat.mul_succ] at low ⊢
    have parity : sz.toSize.bytes % 2 = 0 := by cases sz <;> rfl
    have next : (a - BitVec.ofNat 32 sz.toSize.bytes).toNat = a.toNat - sz.toSize.bytes := by
      rw [BitVec.toNat_sub, BitVec.toNat_ofNat]
      omega
    rw [movemStoreDown, memWrite_ram sz (by omega) (by omega)]
    obtain ⟨m', e, after, later⟩ := ih (a := a - BitVec.ofNat 32 sz.toSize.bytes)
      (s := s.setMem (s.mem.writeAt sz.toSize (a - BitVec.ofNat 32 sz.toSize.bytes).toNat
        ((movemReg (15 - i) s).setWidth _))) (Memory.wf_writeAt wf ..) (by omega) (by omega) (by omega)
    refine ⟨m', e, by omega, later.cons wf ?_ (fun j hj => ?_) (by omega) (by omega)⟩
    · simp [next]
    · rw [List.idxOf_cons_ne _ (Ne.symm hj), next, Nat.mul_succ]
      omega

theorem execMovemRegsEa_predec (sz : LongSize) (r : Fin 8) (s : State) :
    let m := fetch16 .cpu s
    let d := movemStoreDown sz (maskBits m.1) (s.areg r) m.2
    exec (.movemRegsEa sz (.predec r)) s = .next (d.2.setAreg r d.1) := rfl

theorem execMovemRegsEa_other (sz : LongSize) {ea : EA} (h : ∀ r, ea ≠ .predec r) (s : State) :
    let m := fetch16 .cpu s
    let l := addrEA ea m.2
    exec (.movemRegsEa sz ea) s = .next (movemStoreUp sz (maskBits m.1) l.1 l.2) := by
  cases ea with
  | predec r => exact absurd rfl (h r)
  | _ => rfl

/-- The operand of a mask's register, by its rank (R179). -/
theorem Stored.reg {sz : LongSize} {mask : Half} {value : Nat → Long} {place : Nat → Nat} {lo hi : Nat} {m m' : Memory}
    (h : Stored sz (maskBits mask) value (fun i => place ((maskBits mask).idxOf i)) lo hi m m') (i : Nat) (hi : i < 16)
    (b : mask.getLsbD i = true) : m'.readAt sz.toSize (place (maskRank mask i)) = (value i).setWidth _ := by
  have stored := h.operand i (mem_maskBits.2 ⟨hi, b⟩)
  rwa [idxOf_maskBits hi b] at stored

end Sys2Proof.Machine

namespace Sys2Proof
open Machine

/-- Settles O13: the operands one by one, each beside those stored before it; main RAM holds no register of a device. -/
theorem movemStore : Obligations.MovemStore := by
  intro sz ea s wf m n len
  constructor
  · rintro r rfl even low high
    obtain ⟨m', e, after, stored⟩ := stored_movemStoreDown sz (maskBits m.1) (s := m.2) wf even low high
    refine ⟨_, execMovemRegsEa_predec sz r s, ?_⟩
    rw [e]
    simp only [OnlyAreg, State.setAreg_mem, State.areg_setAreg_self]
    exact ⟨stored.reg (place := fun k => (s.areg r).toNat - n * (k + 1)), stored.kept, after, rfl⟩
  · intro other l a even high
    have kept : l.2.mem = s.mem := (same_locEA ea .l m.2).mem.trans (same_fetch16 s).mem
    obtain ⟨m', e, stored⟩ := stored_movemStoreUp sz (maskBits m.1) (a := l.1) (s := l.2) (kept ▸ wf) even high
    refine ⟨kept, _, execMovemRegsEa_other sz other s, ?_⟩
    rw [e]
    rw [kept] at stored
    exact ⟨stored.reg (place := fun k => a + n * k), stored.kept, rfl⟩

end Sys2Proof
end

section
/-! Operation words of the CPU as the statements write them, and `DecodeSamples` (O3). -/
namespace Sys2Proof
open Machine

/-- A word that is an instruction's encoding decodes to it. -/
theorem decode_of_encode {i : Instr} {w : Half} (e : encode i = w) (hi : i.role = .cpu := by rfl)
    (wf : i.wellFormed = true := by rfl) : decode .cpu w = .ok i := e ▸ decode_encode_cpu i hi wf

theorem decode_of_encode_risc {u : Coproc} {i : Instr} {w : Half} (e : encode i = w)
    (hi : i.role = .risc u := by rfl) : decode (.risc u) w = .ok i := e ▸ decode_encode_risc u i hi

/-- Settles O3: each word is the encoding of what it decodes to; the last two match no row. -/
theorem decodeSamples : Obligations.DecodeSamples :=
  ⟨decode_of_encode rfl, decode_of_encode rfl, decode_of_encode rfl, decode_of_encode rfl, decode_of_encode rfl,
    decode_of_encode rfl, decode_of_encode rfl, decode_of_encode_risc rfl, decode_of_encode_risc rfl,
    decode_of_encode_risc rfl, decode_of_encode_risc rfl, decode_of_encode_risc rfl, rfl, rfl⟩

/-! ### Fields as summands -/

/-- Bits in disjoint places add up. -/
theorem or_eq_add {x y m n : Half} (hx : x &&& m = x) (hy : y &&& n = y) (apart : m &&& n = 0) : x ||| y = x + y := by
  refine (BitVec.add_eq_or_of_and_eq_zero x y ?_).symm
  rw [← hx, ← hy, BitVec.and_assoc, BitVec.and_comm y, ← BitVec.and_assoc m, apart]
  simp

theorem at_eq_ofNat {k : Nat} (lo : Nat) (v : BitVec k) : Enc.at_ lo v = BitVec.ofNat 16 (v.toNat * 2 ^ lo) := by
  apply BitVec.eq_of_toNat_eq
  simp [Enc.at_, Nat.shiftLeft_eq]

section
variable {p : Nat} (x y : Fin 8)

/-- The word of a row with one register field, in bits 2:0. -/
theorem word_regLow (hp : BitVec.ofNat 16 p &&& 0xFFF8 = BitVec.ofNat 16 p := by rfl) :
    BitVec.ofNat 16 p ||| Enc.reg 0 x = BitVec.ofNat 16 (p + x) := by
  rw [or_eq_add hp (coded_regLow.within x) rfl, Enc.reg, at_eq_ofNat, ← BitVec.ofNat_add]
  simp

/-- The word of a row with a register in bits 11:9 and a field at the low end. -/
theorem word_regHigh_low {k : Nat} (m n : Half) {low : BitVec k} (hlow : Enc.at_ 0 low &&& n = Enc.at_ 0 low)
    (hp : BitVec.ofNat 16 p &&& m = BitVec.ofNat 16 p) (high : m &&& 0x0E00 = 0)
    (apart : (m ||| 0x0E00) &&& n = 0) :
    BitVec.ofNat 16 p ||| Enc.reg 9 x ||| Enc.at_ 0 low = BitVec.ofNat 16 (p + x * 512 + low.toNat) := by
  have hx := coded_regHigh.within x
  rw [or_eq_add (or_within hp hx high) hlow apart, or_eq_add hp hx high, Enc.reg, at_eq_ofNat,
    at_eq_ofNat, ← BitVec.ofNat_add, ← BitVec.ofNat_add]
  simp

/-- The word of a row with registers in bits 11:9 and 2:0. -/
theorem word_regReg (hp : BitVec.ofNat 16 p &&& 0xF1F8 = BitVec.ofNat 16 p := by rfl) :
    BitVec.ofNat 16 p ||| Enc.reg 9 x ||| Enc.reg 0 y = BitVec.ofNat 16 (p + x * 512 + y) :=
  word_regHigh_low x 0xF1F8 0x0007 (coded_regLow.within y) hp rfl rfl

end

theorem encode_moveq (x : Fin 8) (d : Byte) :
    encode (.moveq x d) = BitVec.ofNat 16 (0x7000 + x * 512 + d.toNat) :=
  word_regHigh_low x 0xF100 0x00FF (coded_low8.within d) rfl rfl rfl

end Sys2Proof
end

section
/-! Moves between registers: MOVEQ, SWAP, EXT and EXG. `RegisterMoves` (O11) follows. -/
namespace Sys2Proof.Machine

theorem State.dregAt_l (s : State) (r : Fin 8) : s.dregAt .l r = s.dreg r := BitVec.setWidth_eq _

/-- What a write of a data register with the std flags of the value does (R21, R234). -/
theorem modifyDreg_std (r : Fin 8) (sz : Size) (v : BitVec sz.bits) (s : State) :
    let t := modifyDreg r sz (fun _ old => (v, stdFlags v old)) s
    t.dregAt sz r = v ∧ KeepsHigh sz (s.dreg r) (t.dreg r) ∧ StdFlags (t.dregAt sz r) s.ccr t.ccr ∧
      OnlyDregCcr r s t ∧ MemKept [] s t := by
  intro t
  obtain ⟨only, value, high, -⟩ := modifyDreg_effect r sz (fun _ old => (v, stdFlags v old)) s
  exact ⟨value, high, value.symm ▸ stdFlags_std v s.ccr, only, memKept_of_mem fun _ => rfl⟩

/-- The same for a whole register. -/
theorem modifyDreg_l_std (r : Fin 8) (v : Long) (s : State) :
    let t := modifyDreg r .l (fun _ old => (v, stdFlags v old)) s
    t.dreg r = v ∧ StdFlags (t.dreg r) s.ccr t.ccr ∧ OnlyDregCcr r s t ∧ MemKept [] s t := by
  intro t
  obtain ⟨value, -, rest⟩ := modifyDreg_std r .l v s
  rw [State.dregAt_l] at value rest
  exact ⟨value, rest⟩

/-- The two halves of a register in each other's place. -/
theorem swapped_toNat (v : Long) :
    (v.extractLsb' 0 16 ++ v.extractLsb' 16 16 : Long).toNat = v.toNat % 2 ^ 16 * 2 ^ 16 + v.toNat / 2 ^ 16 := by
  rw [toNat_append_eq, BitVec.extractLsb'_toNat, BitVec.extractLsb'_toNat, Nat.shiftRight_eq_div_pow,
    Nat.shiftRight_eq_div_pow]
  omega

theorem regsOnly_setDreg (r : Fin 8) (v : Long) (s : State) : RegsOnly s (s.setDreg r v) := ⟨rfl, rfl, rfl⟩

/-- What an exchange leaves: all but CPU registers, and of those SR, `pc` and the run state. -/
theorem RegsOnly.exchanged {s t : State} (h : RegsOnly s t) (run : t.cpu.run = s.cpu.run) :
    OnlyCpu s t ∧ t.cpu.sr = s.cpu.sr ∧ t.cpu.pc = s.cpu.pc ∧ t.cpu.run = s.cpu.run ∧ MemKept [] s t :=
  ⟨h.cpu, h.sr, h.pc, run, memKept_of_mem fun _ => h.same.mem⟩

/-- Settles O11: MOVEQ, SWAP and EXT write a register and its std flags; EXG writes two registers, the second over the
first where they are one. -/
theorem registerMoves : Obligations.RegisterMoves := by
  refine ⟨fun r d s => ⟨?moveq, ?swap, ?extW, ?extL⟩, fun x y s => ⟨?dd, ?aa, ?da⟩, fun x y d => ?words⟩
  case moveq =>
    obtain ⟨value, rest⟩ := modifyDreg_l_std r (d.signExtend 32) s
    exact ⟨_, rfl, (congrArg BitVec.toInt value).trans (BitVec.toInt_signExtend_of_le (by decide)), rest⟩
  case swap =>
    obtain ⟨value, rest⟩ := modifyDreg_l_std r ((s.dreg r).extractLsb' 0 16 ++ (s.dreg r).extractLsb' 16 16) s
    exact ⟨_, rfl, (congrArg BitVec.toNat value).trans (swapped_toNat _), rest⟩
  case extW =>
    obtain ⟨value, high, rest⟩ := modifyDreg_std r .w (((s.dreg r).setWidth 8).signExtend 16) s
    exact ⟨_, rfl, (congrArg BitVec.toInt value).trans (BitVec.toInt_signExtend_of_le (by decide)), high, rest⟩
  case extL =>
    obtain ⟨value, rest⟩ := modifyDreg_l_std r (((s.dreg r).setWidth 16).signExtend 32) s
    exact ⟨_, rfl, (congrArg BitVec.toInt value).trans (BitVec.toInt_signExtend_of_le (by decide)), rest⟩
  case dd =>
    have rest := (regsOnly_setDreg x (s.dreg y) s).trans (regsOnly_setDreg y (s.dreg x) _)
    refine ⟨_, rfl, ?_, State.dreg_setDreg_self .., fun k hk => ?_, fun k => rfl, rest.exchanged rfl⟩
    · rw [State.dreg_setDreg, State.dreg_setDreg_self]
      split <;> simp_all
    · rw [State.dreg_setDreg_ne _ _ hk.2.symm, State.dreg_setDreg_ne _ _ hk.1.symm]
  case aa =>
    have rest := (regsOnly_setAreg x (s.areg y) s).trans (regsOnly_setAreg y (s.areg x) _)
    refine ⟨_, rfl, ?_, State.areg_setAreg_self .., fun k hk => ?_, fun k => ?_, rest.exchanged ?_⟩
    · rw [State.areg_setAreg, State.areg_setAreg_self]
      split <;> simp_all
    · rw [State.areg_setAreg, if_neg hk.2.symm, State.areg_setAreg, if_neg hk.1.symm]
    · rw [State.setAreg_dreg, State.setAreg_dreg]
    · rw [State.setAreg_cpu_run, State.setAreg_cpu_run]
  case da =>
    have rest := (regsOnly_setDreg x (s.areg y) s).trans (regsOnly_setAreg y (s.dreg x) _)
    refine ⟨_, rfl, ?_, State.areg_setAreg_self .., fun k hk => ?_, fun k hk => ?_, rest.exchanged ?_⟩
    · rw [State.setAreg_dreg, State.dreg_setDreg_self]
    · rw [State.setAreg_dreg, State.dreg_setDreg_ne _ _ hk.symm]
    · rw [State.areg_setAreg, if_neg hk.symm, State.setDreg_areg]
    · exact State.setAreg_cpu_run ..
  case words =>
    exact ⟨decode_of_encode (encode_moveq x d), decode_of_encode (word_regLow x), decode_of_encode (word_regLow x),
      decode_of_encode (word_regLow x), decode_of_encode (word_regReg x y), decode_of_encode (word_regReg x y),
      decode_of_encode (word_regReg x y)⟩

end Sys2Proof.Machine
end

section
/-! MOVE to a destination, and CLR, TST, TAS and Scc. `Move` (O10) and `ClrTstTasScc` (O26) follow. -/
namespace Sys2Proof.Machine

/-- A destination that is written without being read, and then the flags (R232, R235). -/
theorem writeEA_overwrites (ea : EA) (sz : Size) (v : BitVec sz.bits) (f : Ccr) (s : State) :
    Overwrites ea sz s ((writeEA ea sz v s).setCcr f) v := ⟨rfl, memKept_writeLoc ea sz s v f⟩

theorem writeEA_ccr (ea : EA) (sz : Size) (v : BitVec sz.bits) (s : State) : (writeEA ea sz v s).ccr = s.ccr :=
  congrArg StatusReg.ccr ((writeLoc_sr _ sz v _).trans (locEA_sr ea sz s))

theorem readEA_ccr (ea : EA) (sz : Size) (s : State) : (readEA ea sz s).2.ccr = s.ccr :=
  congrArg StatusReg.ccr (readEA_sr ea sz s)

/-- MOVE: the destination overwritten with the source operand, its std flags (R240). -/
theorem moveAt_effect (sz : Size) (dst src : EA) (s : State) :
    let v := readEA src sz s
    let l := locEA dst sz v.2
    let t := moveAt sz dst src s
    OnlyCcr (writeLoc l.1 sz v.1 l.2) t ∧ StdFlags v.1 s.ccr t.ccr ∧ MemKept (l.1.bytes sz) s t := by
  intro v l t
  obtain ⟨only, kept⟩ := writeEA_overwrites dst sz v.1 (stdFlags v.1 (writeEA dst sz v.1 v.2).ccr) v.2
  have flags : (writeEA dst sz v.1 v.2).ccr = s.ccr := (writeEA_ccr dst sz v.1 v.2).trans (readEA_ccr src sz s)
  exact ⟨only, flags ▸ stdFlags_std v.1 _, kept.of_default fun hd => same_readEA hd src sz⟩

/-- Settles O10: the three sizes are one operation. -/
theorem move : Obligations.Move := fun dst src s =>
  ⟨⟨_, rfl, moveAt_effect .b dst src s⟩, ⟨_, rfl, moveAt_effect .w dst src s⟩, ⟨_, rfl, moveAt_effect .l dst src s⟩⟩

/-! ### CLR, TST, TAS, Scc -/

/-- The std flags of zero (R234). -/
theorem stdFlags_zero {n : Nat} (old : Ccr) :
    stdFlags (0 : BitVec n) old = { x := old.x, n := false, z := true, v := false, c := false } := by
  simp [stdFlags]

/-- A byte with its top bit set. -/
theorem setTopBit_toNat (v : Byte) : (v ||| 0x80).toNat = v.toNat % 128 + 128 := by
  revert v
  decide

/-- Settles O26: CLR and Scc overwrite, TST reads, TAS reads and rewrites. -/
theorem clrTstTasScc : Obligations.ClrTstTasScc := by
  refine ⟨fun sz ea s => ⟨?clr, ?tst⟩, fun c ea s => ⟨?tas, ?scc⟩⟩
  case clr => exact ⟨_, rfl, writeEA_overwrites ea sz 0 _ s, writeEA_ccr ea sz 0 s ▸ stdFlags_zero _⟩
  case tst => exact ⟨_, rfl, rfl, readEA_ccr ea sz s ▸ stdFlags_std _ _, memKept_readEA rfl⟩
  case tas =>
    obtain ⟨rewrites, flags⟩ := modifyEA_rewrites ea .b (fun v old => (v ||| 0x80, stdFlags v old)) s
    exact ⟨_, _, rfl, setTopBit_toNat _, flags ▸ stdFlags_std _ s.ccr, rewrites⟩
  case scc =>
    refine ⟨_, _, rfl, ?_, writeEA_ccr ea .b _ s, writeEA_overwrites ea .b _ _ s⟩
    split <;> rfl

end Sys2Proof.Machine
end

section
/-! Writes of address registers and of the stack: `AddressMoves` (O17) and `LinkUnlk` (O15) follow. -/
namespace Sys2Proof.Machine

/-! ### MOVEA, ADDA, SUBA -/

/-- An address register written after a source operand was read (R236). -/
theorem setAreg_readEA (r : Fin 8) (ea : EA) (sz : Size) (v : Long) (s : State) :
    let t := (readEA ea sz s).2.setAreg r v
    OnlyAreg r (readEA ea sz s).2 t ∧ t.cpu.sr = s.cpu.sr ∧ MemKept [] s t :=
  ⟨onlyAreg_setAreg .., (State.setAreg_cpu_sr ..).trans (readEA_sr ea sz s), memKept_readEA (State.setAreg_mem ..)⟩

/-- A word or long with its sign at 32 bits (R236). -/
theorem signed32_toInt (sz : LongSize) (v : BitVec sz.toSize.bits) : (signed32 sz v).toInt = v.toInt :=
  BitVec.toInt_signExtend_of_le (by cases sz <;> decide)

/-- An address less a signed value, modulo 2^32 (R267). -/
theorem toNat_sub_signed (a d : Long) : ((a - d).toNat : Int) = (a.toNat - d.toInt) % 2 ^ 32 := by
  rw [BitVec.toNat_sub, BitVec.toInt_eq_toNat_cond]
  split <;> omega

section
variable (sz : LongSize) (r : Fin 8) (ea : EA) (s : State)

theorem moveaAt_effect :
    let v := readEA ea sz.toSize s
    let t := moveaAt sz r ea s
    (t.areg r).toInt = v.1.toInt ∧ OnlyAreg r v.2 t ∧ t.cpu.sr = s.cpu.sr ∧ MemKept [] s t :=
  ⟨(congrArg BitVec.toInt (State.areg_setAreg_self ..)).trans (signed32_toInt sz _), setAreg_readEA ..⟩

theorem addaAt_effect :
    let v := readEA ea sz.toSize s
    let t := addaAt sz r ea s
    ((t.areg r).toNat : Int) = ((v.2.areg r).toNat + v.1.toInt) % 2 ^ 32 ∧ OnlyAreg r v.2 t ∧
      t.cpu.sr = s.cpu.sr ∧ MemKept [] s t := by
  refine ⟨?_, setAreg_readEA ..⟩
  rw [← signed32_toInt, ← toNat_add_signed, addaAt, State.areg_setAreg_self]
  rfl

theorem subaAt_effect :
    let v := readEA ea sz.toSize s
    let t := subaAt sz r ea s
    ((t.areg r).toNat : Int) = ((v.2.areg r).toNat - v.1.toInt) % 2 ^ 32 ∧ OnlyAreg r v.2 t ∧
      t.cpu.sr = s.cpu.sr ∧ MemKept [] s t := by
  refine ⟨?_, setAreg_readEA ..⟩
  rw [← signed32_toInt, ← toNat_sub_signed, subaAt, State.areg_setAreg_self]
  rfl

end

/-! ### LEA and PEA -/

/-- The address of a mode whose location is in memory (R231). -/
theorem addrEA_eq {ea : EA} {s : State} {a : Long} (h : (locEA ea .l s).1 = .mem a) :
    addrEA ea s = (a, (locEA ea .l s).2) := by rw [addrEA, h]; rfl

/-- A push is one write below the stack pointer, in the state with the pointer moved (R233). -/
theorem push32_eq (v : Long) (s : State) :
    push32 v s = writeLong .cpu (s.areg 7 - 4) v (s.setAreg 7 (s.areg 7 - 4)) := by
  rw [push32, State.areg_setAreg_self]

/-- The frame of a write after a change of address registers. -/
theorem memKept_memWrite {s w : State} (h : Same s w) (sz : Size) (a : Long) (v : BitVec sz.bits) :
    MemKept (accessBytes .cpu sz a) s (memWrite .cpu sz a v w) :=
  .of_same h fun wf hd => (memWrite_outside .cpu sz a v hd wf).1

/-- Settles O17: MOVEA, ADDA and SUBA write the register the source's mode left; LEA and PEA use its address. -/
theorem addressMoves : Obligations.AddressMoves := by
  refine ⟨fun r ea s => ⟨?moveaW, ?moveaL⟩, fun r ea s a loc => ⟨?lea, ?pea⟩, fun r ea s => ⟨?_, ?_, ?_, ?_⟩⟩
  case moveaW => exact ⟨_, rfl, moveaAt_effect .w r ea s⟩
  case moveaL =>
    obtain ⟨value, rest⟩ := moveaAt_effect .l r ea s
    exact ⟨_, rfl, BitVec.eq_of_toInt_eq value, rest⟩
  case lea =>
    refine ⟨(locEA ea .l s).2.setAreg r a, ?_, State.areg_setAreg_self .., onlyAreg_setAreg .., ?_, ?_⟩
    · rw [exec, execLea, addrEA_eq loc]
    · rw [State.setAreg_cpu_sr, locEA_sr]
    · rw [State.setAreg_mem, (same_locEA ea .l s).mem]
  case pea =>
    refine ⟨push32 a (locEA ea .l s).2, ?_, ?_, push32_eq .., ?_, ?_⟩
    · rw [exec, execPea, addrEA_eq loc]
    · rw [push32_eq, writeLong, memWrite_areg, State.areg_setAreg_self]
    · rw [push32_eq, writeLong, memWrite_cpu, State.setAreg_cpu_sr, locEA_sr]
    · rw [push32_eq]
      exact memKept_memWrite ((same_locEA ea .l s).trans (same_setAreg ..)) .l _ a
  · exact ⟨_, rfl, addaAt_effect .w r ea s⟩
  · exact ⟨_, rfl, addaAt_effect .l r ea s⟩
  · exact ⟨_, rfl, subaAt_effect .w r ea s⟩
  · exact ⟨_, rfl, subaAt_effect .l r ea s⟩

/-! ### LINK and UNLK -/

theorem fetch16_areg (s : State) (r : Fin 8) : (fetch16 .cpu s).2.areg r = s.areg r := rfl

/-- LINK in closed form: the frame register is stored after A7 has moved (R250). -/
theorem exec_link (r : Fin 8) (s : State) :
    let d := fetch16 .cpu s
    let sp := s.areg 7 - 4
    exec (.link r) s = .next (((writeLong .cpu sp (if r = 7 then sp else s.areg r)
      (d.2.setAreg 7 sp)).setAreg r sp).setAreg 7 (sp + d.1.signExtend 32)) := by
  simp only [exec, execLink, writeLong, memWrite_areg, fetch16_areg, State.areg_setAreg, ite_self, if_true,
    eq_comm (a := (7 : Fin 8)) (b := r)]

/-- UNLK in closed form: A7 ends past the long that was read, or, as the frame register, past its value (R251). -/
theorem exec_unlk (r : Fin 8) (s : State) :
    let v := readLong .cpu (s.areg r) (s.setAreg 7 (s.areg r))
    exec (.unlk r) s = .next ((v.2.setAreg r v.1).setAreg 7 (if r = 7 then v.1 + 4 else s.areg r + 4)) := by
  simp only [exec, execUnlk, readLong, memRead_areg, State.areg_setAreg, if_true, apply_ite (· + (4 : Long))]

/-- Of two writes of address registers the later one counts. -/
theorem setAreg_setAreg_eq (s : State) (r k : Fin 8) (v w : Long) :
    let t := (s.setAreg r v).setAreg k w
    t = (s.setAreg r (t.areg r)).setAreg k (t.areg k) := by
  intro t
  have last : t.areg k = w := State.areg_setAreg_self ..
  by_cases e : r = k
  · subst e
    rw [last, setAreg_setAreg_self]
    exact setAreg_setAreg_self ..
  · have first : t.areg r = v := by rw [State.areg_setAreg, if_neg (Ne.symm e), State.areg_setAreg_self]
    rw [last, first]

/-- Settles O15: the closed forms, and the registers and memory after their writes. -/
theorem linkUnlk : Obligations.LinkUnlk := by
  intro r s d sp v
  refine ⟨⟨_, exec_link r s, rfl, State.areg_setAreg_self .., ?linkFrame, ?linkSr, ?linkMemory⟩,
    ⟨_, exec_unlk r s, State.areg_setAreg_self .., ?unlkFrame, setAreg_setAreg_eq .., ?unlkSr, ?unlkMemory⟩,
    decode_of_encode (word_regLow r), decode_of_encode (word_regLow r)⟩
  case linkFrame | unlkFrame =>
    intro other
    rw [State.areg_setAreg, if_neg (Ne.symm other), State.areg_setAreg_self]
  case linkSr => simp [writeLong]
  case unlkSr => simp [readLong]
  case linkMemory =>
    have moved : Same s (d.2.setAreg 7 sp) := (same_fetch16 s).trans (same_setAreg ..)
    intro wf hd a ha
    rw [State.setAreg_mem, State.setAreg_mem]
    exact memKept_memWrite moved .l sp _ wf hd a ha
  case unlkMemory =>
    refine memKept_of_mem fun hd => ?_
    have moved : Same s (s.setAreg 7 (s.areg r)) := same_setAreg ..
    rw [State.setAreg_mem, State.setAreg_mem]
    exact (moved.trans (same_memRead (moved.defaultDevices hd) .cpu .l _)).mem

end Sys2Proof.Machine
end

section
/-! MOVEP: bytes at every second address, read by the default devices and stored in main RAM. `Movep` (O14) follows. -/
namespace Sys2Proof.Machine

/-! ### Loads -/

theorem movepLoadWord_default {s : State} (hd : s.defaultDevices) (a : Long) :
    movepLoadWord a s = ((readByte .cpu a s).1 ++ (readByte .cpu (a + 2) s).1, s) := by
  simp only [movepLoadWord, readByte, memRead_state _ _ _ _ hd]

/-- Four bytes as one number, the first the most significant (R106). -/
theorem toNat_append_bytes (a b c d : Byte) : ((a ++ b : Half) ++ (c ++ d : Half) : Long).toNat =
    a.toNat * 2 ^ 24 + b.toNat * 2 ^ 16 + c.toNat * 2 ^ 8 + d.toNat := by
  rw [toNat_append_eq, toNat_append_eq, toNat_append_eq]
  omega

/-- A register after a write of its low word. -/
theorem replaceLow_w_toNat (old : Long) (v : Half) :
    (replaceLow .w old v).toNat = old.toNat / 2 ^ 16 * 2 ^ 16 + v.toNat := by
  have high : (old.extractLsb' 16 16).toNat = old.toNat / 2 ^ 16 := by
    rw [BitVec.extractLsb'_toNat, Nat.shiftRight_eq_div_pow]
    omega
  exact (toNat_append_eq (old.extractLsb' 16 16) v).trans (by rw [high])

/-- What a load of a data register after the fetch of a displacement leaves. -/
theorem setDreg_fetched (r : Fin 8) (v : Long) (s : State) :
    let d := fetch16 .cpu s
    let t := d.2.setDreg r v
    OnlyDreg r d.2 t ∧ t.cpu.sr = s.cpu.sr ∧ MemKept [] s t :=
  ⟨by rw [OnlyDreg, State.dreg_setDreg_self], rfl, memKept_of_mem fun _ => rfl⟩

section
variable {s : State} (hd : s.defaultDevices) (r a : Fin 8)
include hd

/-- MOVEP to a register, the long form: four bytes at every second address (R245). -/
theorem exec_movep_load_l :
    let d := fetch16 .cpu s
    let byte (k : Nat) := (readByte .cpu (s.areg a + d.1.signExtend 32 + BitVec.ofNat 32 (2 * k)) d.2).1
    exec (.movep r .memToReg .l a) s =
      .next (d.2.setDreg r ((byte 0 ++ byte 1 : Half) ++ (byte 2 ++ byte 3 : Half))) := by
  have same : (fetch16 .cpu s).2.defaultDevices := hd
  simp only [exec, execMovep, movepLoadWord_default same, fetch16_areg]
  simp [BitVec.add_assoc]

theorem exec_movep_load_w :
    let d := fetch16 .cpu s
    let byte (k : Nat) := (readByte .cpu (s.areg a + d.1.signExtend 32 + BitVec.ofNat 32 (2 * k)) d.2).1
    exec (.movep r .memToReg .w a) s = .next (d.2.setDregAt .w r (byte 0 ++ byte 1 : Half)) := by
  have same : (fetch16 .cpu s).2.defaultDevices := hd
  simp only [exec, execMovep, movepLoadWord_default same, fetch16_areg]
  simp

end

/-! ### Stores -/

/-- Bytes stored at every second address of main RAM, and no other byte of it (R245). -/
theorem movepStore_ram (l : List Byte) {a : Long} {s : State} (wf : s.mem.wf = true)
    (h : a.toNat + 2 * l.length ≤ 0x200001) : ∃ m', movepStore l a s = s.setMem m' ∧
      (∀ k, (hk : k < l.length) → m'.read (a.toNat + 2 * k) = l[k]) ∧
      ∀ b, (∀ k < l.length, b ≠ a.toNat + 2 * k) → m'.read b = s.mem.read b := by
  induction l generalizing a s with
  | nil => exact ⟨s.mem, rfl, nofun, fun _ _ => rfl⟩
  | cons v rest ih =>
    rw [List.length_cons] at h
    rw [movepStore, writeByte, memWrite_b_ram .cpu (by omega)]
    have next : (a + 2).toNat = a.toNat + 2 := add_two_toNat (by omega)
    obtain ⟨m', e, stored, kept⟩ := ih (a := a + 2) (s := s.setMem (s.mem.write a.toNat v)) (Memory.wf_write wf ..)
      (by omega)
    rw [next] at stored kept
    refine ⟨m', e, fun k hk => ?_, fun b hb => ?_⟩
    · cases k with
      | zero =>
        rw [kept _ fun k _ => by omega]
        exact Memory.read_write_same wf ..
      | succ k =>
        rw [List.getElem_cons_succ, ← stored k (by simpa using hk)]
        congr 1
        omega
    · rw [kept b fun k hk => ?_]
      · exact Memory.read_write_ne wf _ (by simpa using hb 0 (by simp))
      · have := hb (k + 1) (by simpa using hk)
        omega

/-- The low `n` bytes of a register, the most significant first (R245). -/
def lowBytes (n : Nat) (v : Long) : List Byte := (List.range n).map fun k => v.extractLsb' (8 * (n - 1 - k)) 8

/-- What a MOVEP store of `n` bytes does, in main RAM: the bytes of the register at every second address (R245). -/
theorem movepStore_lowBytes (n : Nat) (v : Long) {a : Long} {s w : State} (wf : s.mem.wf = true)
    (fetched : w.mem = s.mem) (h : a.toNat + 2 * n ≤ 0x200001) :
    let t := movepStore (lowBytes n v) a w
    (∀ k, k < n → (t.mem.read (a.toNat + 2 * k)).toNat = v.toNat / 2 ^ (8 * (n - 1 - k)) % 256) ∧
      MemSameOutside ((List.range n).map fun k => a.toNat + 2 * k) s t ∧ t = w.setMem t.mem := by
  have length : (lowBytes n v).length = n := by simp [lowBytes]
  obtain ⟨m', e, stored, kept⟩ := movepStore_ram (lowBytes n v) (fetched ▸ wf) (length ▸ h)
  rw [length] at kept
  rw [e]
  refine ⟨fun k hk => ?_, fun b hb => ?_, rfl⟩
  · rw [State.setMem_mem, stored k (length.symm ▸ hk)]
    simp [lowBytes, Nat.shiftRight_eq_div_pow]
  · rw [← fetched]
    exact kept b fun k hk eq => hb (List.mem_map.2 ⟨k, List.mem_range.2 hk, eq.symm⟩)

/-- Settles O14: loads one by one, by the default devices with no other effect; stores in main RAM, each beside the
others. -/
theorem movep : Obligations.Movep := by
  constructor
  · intro r a s hd d byte
    constructor
    · refine ⟨_, exec_movep_load_l hd r a, ?_, setDreg_fetched ..⟩
      rw [State.dreg_setDreg_self, toNat_append_bytes]
    · refine ⟨_, exec_movep_load_w hd r a, ?_, setDreg_fetched ..⟩
      rw [State.setDregAt, State.dreg_setDreg_self, replaceLow_w_toNat, toNat_append_eq, ← Nat.add_assoc]
      rfl
  · intro r a s wf d x high
    have fetched : d.2.mem = s.mem := (same_fetch16 s).mem
    exact ⟨⟨_, rfl, movepStore_lowBytes 4 (s.dreg r) wf fetched (Nat.succ_le_succ high)⟩,
      ⟨_, rfl, movepStore_lowBytes 2 (s.dreg r) wf fetched (show x + 4 ≤ 0x200001 by omega)⟩⟩

end Sys2Proof.Machine
end

section
/-! Additions, subtractions and comparisons with their flags, in every operand form. `AddSubFamily` (O16),
`ExtendedAndNegate` (O18) and `CompareFamily` (O19) follow. -/
namespace Sys2Proof.Machine

/-! ### Operations on two values (R260) -/

section
variable {n : Nat} (src d : BitVec n) (x : Bool) (old : Ccr)

theorem addFlags_z : (addFlags src d x).z = true ↔ (addResult src d x).toNat = 0 := (nz_flags _ _ rfl rfl).2

theorem subFlags_z : (subFlags src d x).z = true ↔ (subResult src d x).toNat = 0 := (nz_flags _ _ rfl rfl).2

theorem stickyZ_z (f : Ccr) : (stickyZ old f).z = true ↔ old.z = true ∧ f.z = true := Bool.and_eq_true_iff

/-- The flags but for Z do not depend on whether it is sticky. -/
theorem Added.stickyZ {x : Bool} {r : BitVec n} {f : Ccr} (h : Added src d x r f) :
    Added src d x r (stickyZ old f) := ⟨h.result, h.carry, h.extend, h.overflow, h.negative⟩

theorem Subtracted.stickyZ {x : Bool} {r : BitVec n} {f : Ccr} (h : Subtracted src d x r f) :
    Subtracted src d x r (stickyZ old f) := ⟨h.result, h.borrow, h.overflow, h.negative⟩

theorem opAdd_added :
    let r := opAdd src d old
    Added src d false r.1 r.2 ∧ (r.2.z = true ↔ r.1.toNat = 0) := ⟨added src d false, addFlags_z src d false⟩

theorem opSub_subtracted :
    let r := opSub src d old
    Subtracted src d false r.1 r.2 ∧ r.2.x = r.2.c ∧ (r.2.z = true ↔ r.1.toNat = 0) :=
  ⟨subtracted src d false, rfl, subFlags_z src d false⟩

theorem opAddx_added :
    let r := opAddx src d old
    Added src d old.x r.1 r.2 ∧ (r.2.z = true ↔ old.z = true ∧ r.1.toNat = 0) :=
  ⟨(added src d old.x).stickyZ .., (stickyZ_z ..).trans (and_congr_right' (addFlags_z ..))⟩

theorem opSubx_subtracted :
    let r := opSubx src d old
    Subtracted src d old.x r.1 r.2 ∧ r.2.x = r.2.c ∧ (r.2.z = true ↔ old.z = true ∧ r.1.toNat = 0) :=
  ⟨(subtracted src d old.x).stickyZ .., rfl, (stickyZ_z ..).trans (and_congr_right' (subFlags_z ..))⟩

end

/-! ### The forms `<ea>,Dn` and a change of a location -/

section
variable (ea : EA) (sz : Size) (src : BitVec sz.bits) (s : State)

theorem modifyEA_opAdd :
    let t := modifyEA ea sz (opAdd src) s
    ∃ res, Added src (readEA ea sz s).1 false res t.ccr ∧ (t.ccr.z = true ↔ res.toNat = 0) ∧ Rewrites ea sz s t res := by
  intro t
  obtain ⟨rewrites, flags⟩ := modifyEA_rewrites ea sz (opAdd src) s
  obtain ⟨sum, zero⟩ := opAdd_added src (readEA ea sz s).1 s.ccr
  exact ⟨_, flags ▸ sum, flags ▸ zero, rewrites⟩

theorem modifyEA_opSub :
    let t := modifyEA ea sz (opSub src) s
    ∃ res, Subtracted src (readEA ea sz s).1 false res t.ccr ∧ t.ccr.x = t.ccr.c ∧ (t.ccr.z = true ↔ res.toNat = 0) ∧
      Rewrites ea sz s t res := by
  intro t
  obtain ⟨rewrites, flags⟩ := modifyEA_rewrites ea sz (opSub src) s
  obtain ⟨difference, extend, zero⟩ := opSub_subtracted src (readEA ea sz s).1 s.ccr
  exact ⟨_, flags ▸ difference, flags ▸ extend, flags ▸ zero, rewrites⟩

theorem modifyEA_opAddx :
    let t := modifyEA ea sz (opAddx src) s
    ∃ res, Added src (readEA ea sz s).1 s.ccr.x res t.ccr ∧ (t.ccr.z = true ↔ s.ccr.z = true ∧ res.toNat = 0) ∧
      Rewrites ea sz s t res := by
  intro t
  obtain ⟨rewrites, flags⟩ := modifyEA_rewrites ea sz (opAddx src) s
  obtain ⟨sum, zero⟩ := opAddx_added src (readEA ea sz s).1 s.ccr
  exact ⟨_, flags ▸ sum, flags ▸ zero, rewrites⟩

theorem modifyEA_opSubx :
    let t := modifyEA ea sz (opSubx src) s
    ∃ res, Subtracted src (readEA ea sz s).1 s.ccr.x res t.ccr ∧ t.ccr.x = t.ccr.c ∧
      (t.ccr.z = true ↔ s.ccr.z = true ∧ res.toNat = 0) ∧ Rewrites ea sz s t res := by
  intro t
  obtain ⟨rewrites, flags⟩ := modifyEA_rewrites ea sz (opSubx src) s
  obtain ⟨difference, extend, zero⟩ := opSubx_subtracted src (readEA ea sz s).1 s.ccr
  exact ⟨_, flags ▸ difference, flags ▸ extend, flags ▸ zero, rewrites⟩

end

/-! ### ADDQ and SUBQ (R264, R269) -/

/-- An address register written, and nothing else. -/
theorem setAreg_frame (r : Fin 8) (v : Long) (s : State) :
    let t := s.setAreg r v
    OnlyAreg r s t ∧ t.cpu.sr = s.cpu.sr ∧ MemKept [] s t :=
  ⟨onlyAreg_setAreg .., State.setAreg_cpu_sr .., memKept_of_mem fun _ => State.setAreg_mem ..⟩

theorem quickValue_le (q : BitVec 3) : quickValue q ≤ 8 := by
  unfold quickValue
  split <;> omega

theorem execAddq_other (q : BitVec 3) (sz : Size) {ea : EA} (h : ∀ a, ea ≠ .an a) (s : State) :
    exec (.addq q sz ea) s = .next (modifyEA ea sz (opAdd (BitVec.ofNat sz.bits (quickValue q))) s) := by
  cases ea with
  | an a => exact absurd rfl (h a)
  | _ => rfl

theorem execSubq_other (q : BitVec 3) (sz : Size) {ea : EA} (h : ∀ a, ea ≠ .an a) (s : State) :
    exec (.subq q sz ea) s = .next (modifyEA ea sz (opSub (BitVec.ofNat sz.bits (quickValue q))) s) := by
  cases ea with
  | an a => exact absurd rfl (h a)
  | _ => rfl

theorem add_quick_toNat (a : Long) (q : BitVec 3) :
    (a + BitVec.ofNat 32 (quickValue q)).toNat = (a.toNat + quickValue q) % 2 ^ 32 := by
  rw [BitVec.toNat_add, BitVec.toNat_ofNat, Nat.add_mod_mod]

theorem sub_quick_toNat (a : Long) (q : BitVec 3) :
    (a - BitVec.ofNat 32 (quickValue q)).toNat = (a.toNat + (2 ^ 32 - quickValue q)) % 2 ^ 32 := by
  have small := quickValue_le q
  rw [BitVec.toNat_sub, BitVec.toNat_ofNat, Nat.mod_eq_of_lt (show quickValue q < 2 ^ 32 by omega), Nat.add_comm]

/-- Settles O16: one operation with its flags in each operand form; an address register is a plain write. -/
theorem addSubFamily : Obligations.AddSubFamily := by
  refine ⟨fun r sz ea q s => ⟨?addEaDn, ?addDnEa, ?addi, ?addqAn, ?addq⟩,
    fun r sz ea q s => ⟨?subEaDn, ?subDnEa, ?subi, ?subqAn, ?subq⟩⟩
  case addEaDn =>
    obtain ⟨only, value, high, flags, kept⟩ := eaToDreg_effect r sz ea opAdd s
    obtain ⟨sum, zero⟩ := opAdd_added (readEA ea sz s).1 (s.dregAt sz r) s.ccr
    rw [← value, ← flags] at sum zero
    exact ⟨_, rfl, sum, zero, high, only, kept⟩
  case subEaDn =>
    obtain ⟨only, value, high, flags, kept⟩ := eaToDreg_effect r sz ea opSub s
    obtain ⟨difference, extend, zero⟩ := opSub_subtracted (readEA ea sz s).1 (s.dregAt sz r) s.ccr
    rw [← value, ← flags] at difference zero
    exact ⟨_, rfl, difference, flags ▸ extend, zero, high, only, kept⟩
  case addDnEa => exact ⟨_, (modifyEA_opAdd ea sz _ s).imp fun _ => .intro rfl⟩
  case subDnEa => exact ⟨_, (modifyEA_opSub ea sz _ s).imp fun _ => .intro rfl⟩
  case addi => exact ⟨_, (modifyEA_opAdd ea sz _ _).imp fun _ => .intro rfl⟩
  case subi => exact ⟨_, (modifyEA_opSub ea sz _ _).imp fun _ => .intro rfl⟩
  case addqAn =>
    rintro a rfl
    refine ⟨_, rfl, ?_, setAreg_frame ..⟩
    rw [State.areg_setAreg_self]
    exact add_quick_toNat ..
  case subqAn =>
    rintro a rfl
    refine ⟨_, rfl, ?_, setAreg_frame ..⟩
    rw [State.areg_setAreg_self]
    exact sub_quick_toNat ..
  case addq => exact fun other => ⟨_, (modifyEA_opAdd ea sz _ s).imp fun _ => .intro (execAddq_other q sz other s)⟩
  case subq => exact fun other => ⟨_, (modifyEA_opSub ea sz _ s).imp fun _ => .intro (execSubq_other q sz other s)⟩

/-! ### NEG and NEGX (R275, R276) -/

section
variable {n : Nat} (d : BitVec n) (x : Bool)

/-- The negative of a value and of X, modulo `2^n`. -/
theorem subResult_zero_sum (hn : 0 < n) : ((subResult d 0 x).toNat + d.toNat + x.toNat) % 2 ^ n = 0 := by
  obtain ⟨m, rfl⟩ := Nat.exists_eq_add_one_of_ne_zero hn.ne'
  have sum := subResult_cases d 0 x
  rw [show BitVec.toNat (0 : BitVec (m + 1)) = 0 from BitVec.toNat_zero] at sum
  rw [pow_succ']
  rcases sum with none | wraps
  · rw [show (subResult d 0 x).toNat + d.toNat + x.toNat = 0 by omega, Nat.zero_mod]
  · rw [show (subResult d 0 x).toNat + d.toNat + x.toNat = 2 * 2 ^ m by omega, Nat.mod_self]

theorem subFlags_zero_c : (subFlags d 0 x).c = true ↔ d.toNat ≠ 0 ∨ x = true := by
  rw [(subtracted d 0 x).borrow]
  cases x <;> simp [Nat.pos_iff_ne_zero]

/-- Overflow of a negation: a negative operand with a negative result (R260). -/
theorem subFlags_zero_v (hn : 0 < n) : (subFlags d 0 x).v = (d.msb && (subResult d 0 x).msb) := by
  rw [Bool.eq_iff_iff, subFlags_v_iff d 0 x hn]
  simp

/-- The one value whose negative is itself and negative (R275). -/
theorem subFlags_zero_v_iff (hn : 0 < n) : (subFlags d 0 false).v = true ↔ d.toNat = 2 ^ (n - 1) := by
  obtain ⟨m, rfl⟩ := Nat.exists_eq_add_one_of_ne_zero hn.ne'
  have sum := subResult_cases d 0 false
  have bound := d.isLt
  rw [show BitVec.toNat (0 : BitVec (m + 1)) = 0 from BitVec.toNat_zero, Bool.toNat_false] at sum
  rw [pow_succ'] at bound
  rw [subFlags_zero_v d false hn, Bool.and_eq_true, BitVec.msb_eq_decide, BitVec.msb_eq_decide, decide_eq_true_iff,
    decide_eq_true_iff, Nat.add_sub_cancel]
  omega

end

theorem bits_pos (sz : Size) : 0 < sz.bits := by cases sz <;> decide

/-- Settles O18: the register forms change the destination register, the others a location; NEG and NEGX subtract from
zero. -/
theorem extendedAndNegate : Obligations.ExtendedAndNegate := by
  intro x y sz ea s
  let d := (readEA ea sz s).1
  refine ⟨?addx, ?subx, ⟨?addxMem, ?subxMem⟩, ?neg, ?negx⟩
  case addx =>
    obtain ⟨only, value, high, flags⟩ := modifyDreg_effect x sz (opAddx (s.dregAt sz y)) s
    obtain ⟨sum, zero⟩ := opAddx_added (s.dregAt sz y) (s.dregAt sz x) s.ccr
    rw [← value, ← flags] at sum zero
    exact ⟨_, rfl, sum, zero, high, only, memKept_of_mem fun _ => rfl⟩
  case subx =>
    obtain ⟨only, value, high, flags⟩ := modifyDreg_effect x sz (opSubx (s.dregAt sz y)) s
    obtain ⟨difference, extend, zero⟩ := opSubx_subtracted (s.dregAt sz y) (s.dregAt sz x) s.ccr
    rw [← value, ← flags] at difference zero
    exact ⟨_, rfl, difference, flags ▸ extend, zero, high, only, memKept_of_mem fun _ => rfl⟩
  case addxMem =>
    have sum := modifyEA_opAddx (.predec x) sz (readEA (.predec y) sz s).1 (readEA (.predec y) sz s).2
    rw [readEA_ccr] at sum
    exact ⟨_, sum.imp fun _ => .intro rfl⟩
  case subxMem =>
    have difference := modifyEA_opSubx (.predec x) sz (readEA (.predec y) sz s).1 (readEA (.predec y) sz s).2
    rw [readEA_ccr] at difference
    exact ⟨_, difference.imp fun _ => .intro rfl⟩
  case neg =>
    obtain ⟨rewrites, flags⟩ := modifyEA_rewrites ea sz opNeg s
    have carry : (subFlags d 0 false).c = true ↔ d.toNat ≠ 0 :=
      (subFlags_zero_c d false).trans (or_iff_left Bool.false_ne_true)
    refine ⟨_, _, rfl, subResult_zero_sum d false (bits_pos sz), ?_⟩
    rw [flags]
    exact ⟨carry, rfl, subFlags_zero_v_iff d (bits_pos sz), nz_flags _ _ rfl rfl, rewrites⟩
  case negx =>
    obtain ⟨rewrites, flags⟩ := modifyEA_rewrites ea sz opNegx s
    refine ⟨_, _, rfl, subResult_zero_sum d s.ccr.x (bits_pos sz), ?_⟩
    rw [flags]
    exact ⟨subFlags_zero_c d s.ccr.x, rfl, subFlags_zero_v d s.ccr.x (bits_pos sz), rfl,
      (stickyZ_z ..).trans (and_congr_right' (subFlags_z ..)), rewrites⟩

/-! ### Comparisons (R271 to R274) -/

theorem fetchImm_sr (sz : Size) (s : State) : (fetchImm sz s).2.cpu.sr = s.cpu.sr := by
  cases sz <;> rfl

/-- Flags of a difference written after the operands were read: N Z V C of it, X as it was, nothing else. -/
theorem setCcr_cmpFlags {n : Nat} (src d : BitVec n) {s w : State} (same : s.defaultDevices → Same s w)
    (sr : w.cpu.sr = s.cpu.sr) :
    let t := w.setCcr (cmpFlags src d w.ccr)
    (∃ res : BitVec n, Subtracted src d false res t.ccr ∧ (t.ccr.z = true ↔ res.toNat = 0)) ∧
      t.ccr.x = s.ccr.x ∧ OnlyCcr w t ∧ MemKept [] s t := by
  intro t
  obtain ⟨result, borrow, overflow, negative⟩ := subtracted src d false
  exact ⟨⟨_, ⟨result, borrow, overflow, negative⟩, subFlags_z src d false⟩, congrArg (·.ccr.x) sr, rfl,
    memKept_of_mem fun hd => (same hd).mem⟩

/-- Settles O19: each compares the two operands in the state after the last of them was read. -/
theorem compareFamily : Obligations.CompareFamily := by
  intro r x y sz ea s compares v i d my mx
  refine ⟨?cmp, ?cmpi, ?cmpm, ?cmpaW, ?cmpaL⟩
  case cmp =>
    rw [← readEA_dregAt ea sz sz s r]
    exact ⟨_, rfl, setCcr_cmpFlags v.1 _ (fun hd => same_readEA hd ea sz) (readEA_sr ea sz s)⟩
  case cmpi =>
    have fetched : Same s i.2 := same_fetchImm sz s
    exact ⟨_, rfl, setCcr_cmpFlags i.1 d.1 (fun hd => fetched.trans (same_readEA (fetched.defaultDevices hd) ea sz))
      ((readEA_sr ea sz i.2).trans (fetchImm_sr sz s))⟩
  case cmpm =>
    refine ⟨_, rfl, setCcr_cmpFlags my.1 mx.1 (fun hd => ?_) ((readEA_sr _ sz my.2).trans (readEA_sr _ sz s))⟩
    have first : Same s my.2 := same_readEA hd (.postinc y) sz
    exact first.trans (same_readEA (first.defaultDevices hd) (.postinc x) sz)
  case cmpaW =>
    exact ⟨_, rfl, setCcr_cmpFlags ((readEA ea .w s).1.signExtend 32) _ (fun hd => same_readEA hd ea .w)
      (readEA_sr ea .w s)⟩
  case cmpaL =>
    have whole : signed32 .l (readEA ea .l s).1 = (readEA ea .l s).1 := BitVec.signExtend_eq _
    rw [← whole]
    exact ⟨_, rfl, setCcr_cmpFlags (signed32 .l (readEA ea .l s).1) _ (fun hd => same_readEA hd ea .l)
      (readEA_sr ea .l s)⟩

end Sys2Proof.Machine
end

section
/-! The exception sequence (R614) as `ExceptionTaken` states it. -/
namespace Sys2Proof.Machine

/-! ### The frame -/

section
variable (k : ExcKind) (savedPc : Long) (s : State)

/-- The state after the saved `pc` was pushed. -/
def pushedPc : State :=
  memWrite .cpu .l (s.cpu.ssp - 4) savedPc
    (s.patch { s.cpu with sr := excSr k s.cpu.sr, ssp := s.cpu.ssp - 4 } s.fetched s.stepCycles)

/-- The state after SR was pushed too. -/
def pushedFrame : State :=
  memWrite .cpu .w (s.cpu.ssp - 6) s.cpu.sr.toHalf
    ((pushedPc k savedPc s).patch { s.cpu with sr := excSr k s.cpu.sr, ssp := s.cpu.ssp - 6 } s.fetched s.stepCycles)

theorem takeException_pushedFrame : takeException k savedPc s = (pushedFrame k savedPc s).patch
    { s.cpu with
      sr := excSr k s.cpu.sr, ssp := s.cpu.ssp - 6,
      pc := evenAddr ((pushedFrame k savedPc s).mem.read32 (4 * (excVector k).toNat)), run := .running }
    s.fetched (s.stepCycles + Config.costExc .cpu k) := takeException_eq k savedPc s

/-- A push leaves the scratch fields, so the later changes are of the CPU only. -/
theorem pushedPc_patch (c : Cpu) :
    (pushedPc k savedPc s).patch c s.fetched s.stepCycles = { pushedPc k savedPc s with cpu := c } := by
  have kept : BusKeeps _ (pushedPc k savedPc s) := memWrite_busKeeps ..
  exact kept.fetched ▸ kept.stepCycles ▸ rfl

theorem pushedFrame_patch (c : Cpu) (n : Nat) :
    (pushedFrame k savedPc s).patch c s.fetched n = { pushedFrame k savedPc s with cpu := c, stepCycles := n } := by
  have kept : BusKeeps _ (pushedFrame k savedPc s) := memWrite_busKeeps ..
  exact kept.fetched ▸ rfl

theorem entrySr_excSr : EntrySr k s.cpu.sr (excSr k s.cpu.sr) := by
  cases k <;> exact ⟨rfl, rfl, rfl, rfl⟩

/-- The frame's bytes, and no others of memory. -/
theorem memKept_pushedFrame :
    MemKept (accessBytes .cpu .l (s.cpu.ssp - 4) ++ accessBytes .cpu .w (s.cpu.ssp - 6)) s
      (pushedFrame k savedPc s) := by
  intro wf hd a outside
  rw [List.mem_append, not_or] at outside
  obtain ⟨keptPc, wfPc, devicesPc⟩ := memWrite_outside .cpu .l (s.cpu.ssp - 4) savedPc
    (s := s.patch { s.cpu with sr := excSr k s.cpu.sr, ssp := s.cpu.ssp - 4 } s.fetched s.stepCycles) hd wf
  obtain ⟨keptSr, -⟩ := memWrite_outside .cpu .w (s.cpu.ssp - 6) s.cpu.sr.toHalf
    (s := (pushedPc k savedPc s).patch { s.cpu with sr := excSr k s.cpu.sr, ssp := s.cpu.ssp - 6 } s.fetched
      s.stepCycles) devicesPc wfPc
  exact (keptSr a outside.2).trans (keptPc a outside.1)

section
variable {s}

theorem FrameInRam.sub_toNat (h : FrameInRam s) :
    (s.cpu.ssp - 4).toNat = s.cpu.ssp.toNat - 4 ∧ (s.cpu.ssp - 6).toNat = s.cpu.ssp.toNat - 6 := by
  obtain ⟨-, low, -⟩ := h
  constructor <;> bv_omega

/-- A frame in main RAM is two stores in memory. -/
theorem pushedFrame_ram (h : FrameInRam s) :
    pushedFrame k savedPc s = (s.setMem ((s.mem.write32 (s.cpu.ssp.toNat - 4) savedPc).write16 (s.cpu.ssp.toNat - 6)
      s.cpu.sr.toHalf)).patch { s.cpu with sr := excSr k s.cpu.sr, ssp := s.cpu.ssp - 6 } s.fetched s.stepCycles := by
  obtain ⟨four, six⟩ := h.sub_toNat
  obtain ⟨even, low, high⟩ := h
  rw [pushedFrame, pushedPc, memWrite_l_ram (by omega) (by omega), memWrite_w_ram (by omega) (by omega), four, six]
  rfl

/-- The frame read back: the two stores lie beside each other. -/
theorem pushedFrame_read (wf : s.mem.wf = true) (h : FrameInRam s) :
    (pushedFrame k savedPc s).mem.read16 (s.cpu.ssp.toNat - 6) = s.cpu.sr.toHalf ∧
      (pushedFrame k savedPc s).mem.read32 (s.cpu.ssp.toNat - 4) = savedPc := by
  have wfPc : (s.mem.write32 (s.cpu.ssp.toNat - 4) savedPc).wf = true := Memory.wf_writeAt wf .l ..
  have ⟨_, low, _⟩ := h
  rw [pushedFrame_ram k savedPc h, State.patch_mem, State.setMem_mem]
  refine ⟨Memory.read16_write16 wfPc .., ?_⟩
  calc Memory.readAt _ .l _ = (s.mem.write32 (s.cpu.ssp.toNat - 4) savedPc).readAt .l (s.cpu.ssp.toNat - 4) :=
        Memory.readAt_congr fun b from_ _ => Memory.read_writeAt_outside wfPc .w _ _ _ (.inr (by
          simp only [Size.bytes]; omega))
    _ = savedPc := Memory.read32_write32 wf ..

end

/-- Taking an exception is the sequence that the claims name. -/
theorem exceptionTaken_takeException : ExceptionTaken k savedPc s (takeException k savedPc s) := by
  rw [takeException_pushedFrame]
  exact {
    sr := entrySr_excSr k s
    data := rfl
    address := rfl
    usp := rfl
    ssp := rfl
    pc := rfl
    run := rfl
    cpuCycles := rfl
    cost := rfl
    frame := pushedFrame_read k savedPc
    pushes := by
      rw [pushedFrame_patch, pushedFrame, pushedPc_patch]
      rfl
    rest := fun h => by
      rw [pushedFrame_ram k savedPc h]
      rfl
    memory := memKept_pushedFrame k savedPc s }

end
end Sys2Proof.Machine
end

section
/-! MULU, MULS, DIVU and DIVS. `MultiplyDivide` (O20) follows. -/
namespace Sys2Proof.Machine

/-! ### A data register and the flags written after a source operand was read -/

theorem setDreg_setCcr_readEA (r : Fin 8) (ea : EA) (sz : Size) (v : Long) (f : Ccr) (s : State) :
    let w := (readEA ea sz s).2
    let t := (w.setDreg r v).setCcr f
    OnlyDregCcr r w t ∧ MemKept [] s t ∧ t.dreg r = v ∧ t.ccr = f := by
  intro w t
  have value : t.dreg r = v := State.dreg_setDreg_self ..
  exact ⟨by rw [OnlyDregCcr, value]; rfl, memKept_readEA rfl, value, rfl⟩

/-! ### MULU and MULS (R278, R281) -/

section
variable (a b : Half)

theorem mulu_toNat : (BitVec.ofNat 32 (a.toNat * b.toNat)).toNat = a.toNat * b.toNat := by
  rw [BitVec.toNat_ofNat]
  exact Nat.mod_eq_of_lt (Nat.mul_lt_mul'' (c := 2 ^ 16) (d := 2 ^ 16) a.isLt b.isLt)

theorem muls_toInt : (BitVec.ofInt 32 (a.toInt * b.toInt)).toInt = a.toInt * b.toInt := by
  have product := toInt_ofInt_s16_mul (w := 32) le_rfl (a.setWidth 32) (b.setWidth 32)
  have low (v : Half) : s16 (v.setWidth 32) = v.toInt :=
    congrArg BitVec.toInt (BitVec.setWidth_setWidth_of_le _ (by decide))
  rwa [low, low] at product

end

/-- What a product written to a register does: its std flags, nothing else (R278, R281). -/
theorem product_effect (r : Fin 8) (ea : EA) (p : Long) (s : State) :
    let w := (readEA ea .w s).2
    let t := (w.setDreg r p).setCcr (stdFlags p w.ccr)
    t.dreg r = p ∧ StdFlags (t.dreg r) s.ccr t.ccr ∧ OnlyDregCcr r w t ∧ MemKept [] s t := by
  intro w t
  obtain ⟨only, kept, value, flags⟩ := setDreg_setCcr_readEA r ea .w p (stdFlags p w.ccr) s
  exact ⟨value, by rw [value, flags, readEA_ccr]; exact stdFlags_std p s.ccr, only, kept⟩

theorem execMulu_effect (r : Fin 8) (ea : EA) (s : State) :
    let v := readEA ea .w s
    ∃ t, exec (.mulu r ea) s = .next t ∧ (t.dreg r).toNat = v.1.toNat * (s.dregAt .w r).toNat ∧
      StdFlags (t.dreg r) s.ccr t.ccr ∧ OnlyDregCcr r v.2 t ∧ MemKept [] s t := by
  intro v
  obtain ⟨value, rest⟩ := product_effect r ea (BitVec.ofNat 32 (v.1.toNat * (v.2.dregAt .w r).toNat)) s
  refine ⟨_, rfl, ?_, rest⟩
  rw [← readEA_dregAt ea .w .w s r]
  exact (congrArg BitVec.toNat value).trans (mulu_toNat ..)

theorem execMuls_effect (r : Fin 8) (ea : EA) (s : State) :
    let v := readEA ea .w s
    ∃ t, exec (.muls r ea) s = .next t ∧ (t.dreg r).toInt = v.1.toInt * (s.dregAt .w r).toInt ∧
      StdFlags (t.dreg r) s.ccr t.ccr ∧ OnlyDregCcr r v.2 t ∧ MemKept [] s t := by
  intro v
  obtain ⟨value, rest⟩ := product_effect r ea (BitVec.ofInt 32 (v.1.toInt * (v.2.dregAt .w r).toInt)) s
  refine ⟨_, rfl, ?_, rest⟩
  rw [← readEA_dregAt ea .w .w s r]
  exact (congrArg BitVec.toInt value).trans (muls_toInt ..)

/-! ### DIVU and DIVS (R279, R280) -/

section
variable (r : Fin 8) (ea : EA) (s : State)

theorem execDivu_zero (h : (readEA ea .w s).1.toNat = 0) :
    let w := (readEA ea .w s).2
    exec (.divu r ea) s = .next (takeException (.vector 5) w.cpu.pc w) := if_pos (BitVec.eq_of_toNat_eq h)

theorem execDivs_zero (h : (readEA ea .w s).1.toNat = 0) :
    let w := (readEA ea .w s).2
    exec (.divs r ea) s = .next (takeException (.vector 5) w.cpu.pc w) := if_pos (BitVec.eq_of_toNat_eq h)

/-- A write of what a register holds. -/
theorem setDreg_dreg_self (s : State) (r : Fin 8) : s.setDreg r (s.dreg r) = s := by
  simp [State.setDreg, State.dreg]

/-- What a division that overflows leaves: the register and memory, the flags changed (R279, R280). -/
theorem divOverflow_effect (nz : Bool × Bool) :
    let w := (readEA ea .w s).2
    let t := w.setCcr (divOverflowFlags nz w.ccr)
    OnlyDregCcr r w t ∧ MemKept [] s t ∧ t.ccr.x = s.ccr.x ∧ t.ccr.c = false ∧ t.ccr.v = true ∧
      t.dreg r = s.dreg r := by
  intro w t
  have value : t.dreg r = w.dreg r := State.setCcr_dreg ..
  have old : w.ccr.x = s.ccr.x := congrArg Ccr.x (readEA_ccr ea .w s)
  refine ⟨?_, memKept_readEA rfl, old, rfl, rfl, value.trans (readEA_dreg ..)⟩
  rw [OnlyDregCcr, value, setDreg_dreg_self]
  rfl

/-- What a division that fits leaves: the remainder beside the quotient, the flags of the quotient (R279, R280). -/
theorem divFits_effect (rem q : Half) :
    let w := (readEA ea .w s).2
    let t := (w.setDreg r (rem ++ q)).setCcr (quotientFlags q w.ccr)
    OnlyDregCcr r w t ∧ MemKept [] s t ∧ t.ccr.x = s.ccr.x ∧ t.ccr.c = false ∧ t.ccr.v = false ∧
      t.dreg r = rem ++ q ∧ NZ q t.ccr := by
  intro w t
  obtain ⟨only, kept, value, flags⟩ := setDreg_setCcr_readEA r ea .w (rem ++ q) (quotientFlags q w.ccr) s
  have old : w.ccr.x = s.ccr.x := congrArg Ccr.x (readEA_ccr ea .w s)
  exact ⟨only, kept, old, rfl, rfl, value, nz_flags q _ rfl rfl⟩

theorem execDivu_overflow (h : (readEA ea .w s).1.toNat ≠ 0)
    (large : 0x10000 * (readEA ea .w s).1.toNat ≤ (s.dreg r).toNat) :
    let w := (readEA ea .w s).2
    ∃ nz, exec (.divu r ea) s = .next (w.setCcr (divOverflowFlags nz w.ccr)) := by
  intro w
  have overflow : 0xFFFF < (w.dreg r).toNat / (readEA ea .w s).1.toNat := by
    rw [readEA_dreg]
    exact (Nat.le_div_iff_mul_le (Nat.pos_of_ne_zero h)).2 large
  exact ⟨_, (if_neg fun e => h (congrArg BitVec.toNat e)).trans (if_pos overflow)⟩

theorem execDivu_fits (h : (readEA ea .w s).1.toNat ≠ 0)
    (small : (s.dreg r).toNat < 0x10000 * (readEA ea .w s).1.toNat) :
    let m := (readEA ea .w s).1.toNat
    let w := (readEA ea .w s).2
    let q := BitVec.ofNat 16 ((s.dreg r).toNat / m)
    exec (.divu r ea) s =
      .next ((w.setDreg r (BitVec.ofNat 16 ((s.dreg r).toNat % m) ++ q)).setCcr (quotientFlags q w.ccr)) := by
  intro m w
  have fits : ¬ 0xFFFF < (w.dreg r).toNat / m := by
    rw [readEA_dreg]
    exact fun large => absurd ((Nat.le_div_iff_mul_le (Nat.pos_of_ne_zero h)).1 large) (Nat.not_le.2 small)
  rw [← readEA_dreg ea .w s r]
  exact (if_neg fun e => h (congrArg BitVec.toNat e)).trans (if_neg fits)

theorem execDivs_overflow (h : (readEA ea .w s).1.toInt ≠ 0)
    (large : ¬ FitsSigned 16 ((s.dreg r).toInt.tdiv (readEA ea .w s).1.toInt)) :
    let w := (readEA ea .w s).2
    ∃ nz, exec (.divs r ea) s = .next (w.setCcr (divOverflowFlags nz w.ccr)) := by
  intro w
  rw [← readEA_dreg ea .w s r, ← outOfSigned_iff] at large
  exact ⟨_, (if_neg fun e => h (congrArg BitVec.toInt e)).trans (if_pos large)⟩

theorem execDivs_fits (h : (readEA ea .w s).1.toInt ≠ 0)
    (small : FitsSigned 16 ((s.dreg r).toInt.tdiv (readEA ea .w s).1.toInt)) :
    let m := (readEA ea .w s).1.toInt
    let w := (readEA ea .w s).2
    let d := (s.dreg r).toInt
    let q := BitVec.ofInt 16 (d.tdiv m)
    exec (.divs r ea) s =
      .next ((w.setDreg r (BitVec.ofInt 16 (d - d.tdiv m * m) ++ q)).setCcr (quotientFlags q w.ccr)) := by
  intro m w
  rw [← readEA_dreg ea .w s r] at small ⊢
  exact (if_neg fun e => h (congrArg BitVec.toInt e)).trans (if_neg fun large => (outOfSigned_iff ..).1 large small)

theorem execDivu_effect :
    let v := readEA ea .w s
    let m : Nat := v.1.toNat
    let d := (s.dreg r).toNat
    m ≠ 0 → ∃ t, exec (.divu r ea) s = .next t ∧ OnlyDregCcr r v.2 t ∧ MemKept [] s t ∧ t.ccr.x = s.ccr.x ∧
      t.ccr.c = false ∧ (t.ccr.v = true ↔ 0x10000 * m ≤ d) ∧
      (d < 0x10000 * m → ∃ q rem, q < 0x10000 ∧ rem < m ∧ d = q * m + rem ∧
        (t.dreg r).toNat = rem * 2 ^ 16 + q ∧ (t.ccr.n = true ↔ 0x8000 ≤ q) ∧ (t.ccr.z = true ↔ q = 0)) ∧
      (0x10000 * m ≤ d → t.dreg r = s.dreg r) := by
  intro v m d nonzero
  rcases Nat.lt_or_ge d (0x10000 * m) with small | large
  · obtain ⟨only, kept, x, c, noOverflow, value, negative, zero⟩ :=
      divFits_effect r ea s (BitVec.ofNat 16 (d % m)) (BitVec.ofNat 16 (d / m))
    have remainder : d % m < m := Nat.mod_lt _ (Nat.pos_of_ne_zero nonzero)
    have divisor : m < 2 ^ 16 := v.1.isLt
    have quotient : d / m < 2 ^ 16 := Nat.div_lt_of_lt_mul (Nat.mul_comm .. ▸ small)
    have q : (BitVec.ofNat 16 (d / m)).toNat = d / m := by rw [BitVec.toNat_ofNat, Nat.mod_eq_of_lt quotient]
    have rem : (BitVec.ofNat 16 (d % m)).toNat = d % m := by
      rw [BitVec.toNat_ofNat, Nat.mod_eq_of_lt (remainder.trans divisor)]
    rw [q] at negative zero
    refine ⟨_, execDivu_fits r ea s nonzero small, only, kept, x, c, ?_, fun _ =>
      ⟨d / m, d % m, quotient, remainder, (Nat.div_add_mod' d m).symm, ?_, negative, zero⟩,
      fun large => absurd small (Nat.not_lt.2 large)⟩
    · rw [noOverflow]
      exact iff_of_false Bool.false_ne_true (Nat.not_le.2 small)
    · rw [value, toNat_append_eq, q, rem]
  · obtain ⟨nz, run⟩ := execDivu_overflow r ea s nonzero large
    obtain ⟨only, kept, x, c, overflow, value⟩ := divOverflow_effect r ea s nz
    exact ⟨_, run, only, kept, x, c, iff_of_true overflow large, fun small => absurd small (Nat.not_lt.2 large),
      fun _ => value⟩

end

/-- The remainder of a division that truncates: below the divisor, with the sign of the dividend (R280). -/
theorem tmod_sign (d m : Int) (hm : m ≠ 0) :
    (d.tmod m).natAbs < m.natAbs ∧ (0 < d.tmod m → 0 < d) ∧ (d.tmod m < 0 → d < 0) := by
  refine ⟨?_, fun positive => ?_, fun negative => ?_⟩
  · rw [Int.natAbs_tmod]
    exact Nat.mod_lt _ (Int.natAbs_pos.2 hm)
  · by_contra h
    have opposite := Int.tmod_nonneg m (show 0 ≤ -d by omega)
    rw [Int.neg_tmod] at opposite
    omega
  · by_contra h
    have same := Int.tmod_nonneg m (show 0 ≤ d by omega)
    omega

/-- A signed integer in its width. -/
theorem toInt_ofInt_of_fits {v : Int} (h : FitsSigned 16 v) : (BitVec.ofInt 16 v).toInt = v :=
  BitVec.toInt_ofInt_eq_self (by decide) h.1 h.2

/-- N and Z by the signed value. -/
theorem nz_toInt {q : Half} {f : Ccr} (h : NZ q f) : (f.n = true ↔ q.toInt < 0) ∧ (f.z = true ↔ q.toInt = 0) := by
  obtain ⟨negative, zero⟩ := h
  have bound := q.isLt
  rw [negative, zero, BitVec.toInt_eq_toNat_cond]
  constructor <;> split <;> omega

theorem execDivs_effect (r : Fin 8) (ea : EA) (s : State) :
    let v := readEA ea .w s
    let m : Int := v.1.toInt
    let d : Int := (s.dreg r).toInt
    m ≠ 0 → ∃ t, exec (.divs r ea) s = .next t ∧ OnlyDregCcr r v.2 t ∧ MemKept [] s t ∧ t.ccr.x = s.ccr.x ∧
      t.ccr.c = false ∧
      ∃ q rem : Int, d = q * m + rem ∧ rem.natAbs < m.natAbs ∧ (0 < rem → 0 < d) ∧ (rem < 0 → d < 0) ∧
        (t.ccr.v = true ↔ ¬ FitsSigned 16 q) ∧
        (FitsSigned 16 q → ((t.dreg r).setWidth 16).toInt = q ∧ ((t.dreg r).extractLsb' 16 16).toInt = rem ∧
          (t.ccr.n = true ↔ q < 0) ∧ (t.ccr.z = true ↔ q = 0)) ∧
        (¬ FitsSigned 16 q → t.dreg r = s.dreg r) := by
  intro v m d nonzero
  obtain ⟨bound, positive, negative⟩ := tmod_sign d m nonzero
  have identity : d = d.tdiv m * m + d.tmod m := (Int.tdiv_mul_add_tmod d m).symm
  by_cases fits : FitsSigned 16 (d.tdiv m)
  · obtain ⟨only, kept, x, c, noOverflow, value, nz⟩ :=
      divFits_effect r ea s (BitVec.ofInt 16 (d - d.tdiv m * m)) (BitVec.ofInt 16 (d.tdiv m))
    have remainder : d - d.tdiv m * m = d.tmod m := by omega
    have divisor : -2 ^ 15 ≤ m ∧ m < 2 ^ 15 := ⟨BitVec.le_toInt v.1, BitVec.toInt_lt⟩
    have remFits : FitsSigned 16 (d.tmod m) := by constructor <;> omega
    have flags := nz_toInt nz
    rw [toInt_ofInt_of_fits fits] at flags
    refine ⟨_, execDivs_fits r ea s nonzero fits, only, kept, x, c, d.tdiv m, d.tmod m, identity, bound, positive,
      negative, ?_, fun _ => ⟨?_, ?_, flags⟩, fun large => absurd fits large⟩
    · rw [noOverflow]
      exact iff_of_false Bool.false_ne_true (not_not_intro fits)
    · rw [value, setWidth_append, toInt_ofInt_of_fits fits]
    · rw [value, BitVec.extractLsb'_append_eq_left, remainder, toInt_ofInt_of_fits remFits]
  · obtain ⟨nz, run⟩ := execDivs_overflow r ea s nonzero fits
    obtain ⟨only, kept, x, c, overflow, value⟩ := divOverflow_effect r ea s nz
    exact ⟨_, run, only, kept, x, c, d.tdiv m, d.tmod m, identity, bound, positive, negative,
      iff_of_true overflow fits, fun small => absurd small fits, fun _ => value⟩

/-- Settles O20: products that 32 bits hold; quotients that fit or overflow; the exception sequence for a zero
divisor. -/
theorem multiplyDivide : Obligations.MultiplyDivide :=
  ⟨fun r ea s => ⟨execMulu_effect r ea s, execMuls_effect r ea s⟩, execDivu_effect, execDivs_effect, fun r ea s zero =>
    ⟨⟨_, execDivu_zero r ea s zero, exceptionTaken_takeException ..⟩,
      ⟨_, execDivs_zero r ea s zero, exceptionTaken_takeException ..⟩⟩⟩

end Sys2Proof.Machine
end

section
/-! ABCD, SBCD and NBCD: decimal addition and subtraction digit by digit. `DecimalArithmetic` (O21) follows. -/
namespace Sys2Proof.Machine

/-! ### Two digits in a byte (R283) -/

/-- Carry or borrow, Z, N and X of a decimal result (R283 to R285). -/
def DecimalFlags (res : Byte) (c : Nat) (old f : Ccr) : Prop :=
  (f.c = true ↔ c = 1) ∧ f.x = f.c ∧ (f.z = true ↔ old.z = true ∧ res.toNat = 0) ∧ f.n = res.msb

/-- Result and flags of a decimal addition with X (R283). -/
def DecimalSum (src d res : Byte) (old f : Ccr) : Prop :=
  isBcd src → isBcd d → isBcd res ∧
    ∃ c, bcdValue d + bcdValue src + old.x.toNat = 100 * c + bcdValue res ∧ DecimalFlags res c old f

/-- Result and flags of a decimal subtraction with X (R284). -/
def DecimalDifference (src d res : Byte) (old f : Ccr) : Prop :=
  isBcd src → isBcd d → isBcd res ∧
    ∃ c, bcdValue d + 100 * c = bcdValue src + old.x.toNat + bcdValue res ∧ DecimalFlags res c old f

theorem decimalFlags_effect (rule : DecimalRule) (s d : Byte) (rc : Byte × Bool) (old : Ccr) :
    DecimalFlags rc.1 rc.2.toNat old (decimalFlags rule s d rc old) := by
  refine ⟨Bool.toNat_eq_one.symm, rfl, ?_, rfl⟩
  rw [decimalFlags, Bool.and_eq_true, beq_iff_eq, ← BitVec.toNat_inj]
  rfl

theorem bcd_of_digits {b : Byte} {high low : Nat} (h : b.toNat = 16 * high + low) (hh : high ≤ 9) (hl : low ≤ 9) :
    isBcd b ∧ bcdValue b = 10 * high + low := by
  unfold isBcd bcdValue
  omega

section
variable {s d : Byte} (hs : isBcd s) (hd : isBcd d) (x : Bool)
include hs hd

/-- The low digit of a sum: with a carry, 6 moves it past the values that a nibble has and a digit has not (R283). -/
theorem decimalAdd_lowDigit : ∃ low k, low ≤ 9 ∧ k ≤ 1 ∧ s.toNat % 16 + d.toNat % 16 + x.toNat = 10 * k + low ∧
    (if s.toNat % 16 + d.toNat % 16 + x.toNat > 9 then s.toNat + d.toNat + x.toNat + 6
      else s.toNat + d.toNat + x.toNat) = 16 * (s.toNat / 16 + d.toNat / 16 + k) + low := by
  obtain ⟨-, sLow⟩ := hs
  obtain ⟨-, dLow⟩ := hd
  have carry := x.toNat_le
  split
  · exact ⟨s.toNat % 16 + d.toNat % 16 + x.toNat - 10, 1, by omega⟩
  · exact ⟨s.toNat % 16 + d.toNat % 16 + x.toNat, 0, by omega⟩

theorem decimalAdd_value :
    let r := decimalAdd s d x
    isBcd r.1 ∧ bcdValue d + bcdValue s + x.toNat = 100 * r.2.toNat + bcdValue r.1 := by
  obtain ⟨low, k, digit, carry, sum, moved⟩ := decimalAdd_lowDigit hs hd x
  obtain ⟨sHigh, -⟩ := hs
  obtain ⟨dHigh, -⟩ := hd
  simp only [decimalAdd, moved]
  by_cases carries : 10 ≤ s.toNat / 16 + d.toNat / 16 + k
  · have c : decide (16 * (s.toNat / 16 + d.toNat / 16 + k) + low ≥ 0xA0) = true := decide_eq_true (by omega)
    rw [c, if_pos rfl, Bool.toNat_true]
    obtain ⟨bcd, value⟩ := bcd_of_digits (b := BitVec.ofNat 8 (16 * (s.toNat / 16 + d.toNat / 16 + k) + low + 0x60))
      (high := s.toNat / 16 + d.toNat / 16 + k - 10) (by rw [BitVec.toNat_ofNat]; omega) (by omega) digit
    exact ⟨bcd, by rw [value, bcdValue, bcdValue]; omega⟩
  · have c : decide (16 * (s.toNat / 16 + d.toNat / 16 + k) + low ≥ 0xA0) = false := decide_eq_false (by omega)
    rw [c, if_neg Bool.false_ne_true, Bool.toNat_false]
    obtain ⟨bcd, value⟩ := bcd_of_digits (b := BitVec.ofNat 8 (16 * (s.toNat / 16 + d.toNat / 16 + k) + low))
      (high := s.toNat / 16 + d.toNat / 16 + k) (by rw [BitVec.toNat_ofNat]; omega) (by omega) digit
    exact ⟨bcd, by rw [value, bcdValue, bcdValue]; omega⟩

/-- The low digit of a difference: with a borrow, 6 moves it past the values that no digit has (R284). -/
theorem decimalSub_lowDigit : ∃ low k : Nat, low ≤ 9 ∧ k ≤ 1 ∧
    d.toNat % 16 + 10 * k = s.toNat % 16 + x.toNat + low ∧
    (if ((d.toNat % 16 : Nat) - (s.toNat % 16 : Nat) - x.toNat : Int) < 0 then (d.toNat - s.toNat - x.toNat : Int) - 6
      else d.toNat - s.toNat - x.toNat) = 16 * (d.toNat / 16 - s.toNat / 16 - k : Int) + low := by
  obtain ⟨-, sLow⟩ := hs
  obtain ⟨-, dLow⟩ := hd
  have borrow := x.toNat_le
  split
  · exact ⟨d.toNat % 16 + 10 - s.toNat % 16 - x.toNat, 1, by omega⟩
  · exact ⟨d.toNat % 16 - s.toNat % 16 - x.toNat, 0, by omega⟩

theorem decimalSub_value :
    let r := decimalSub s d x
    isBcd r.1 ∧ bcdValue d + 100 * r.2.toNat = bcdValue s + x.toNat + bcdValue r.1 := by
  obtain ⟨low, k, digit, borrow, difference, moved⟩ := decimalSub_lowDigit hs hd x
  obtain ⟨sHigh, -⟩ := hs
  obtain ⟨dHigh, -⟩ := hd
  simp only [decimalSub, moved]
  by_cases borrows : d.toNat / 16 < s.toNat / 16 + k
  · have c : decide (16 * (d.toNat / 16 - s.toNat / 16 - k : Int) + low < 0) = true := decide_eq_true (by omega)
    rw [c, if_pos (by omega), Bool.toNat_true]
    obtain ⟨bcd, value⟩ := bcd_of_digits
      (b := BitVec.ofInt 8 (16 * (d.toNat / 16 - s.toNat / 16 - k : Int) + low - 0x60))
      (high := d.toNat / 16 + 10 - s.toNat / 16 - k) (by rw [BitVec.toNat_ofInt]; omega) (by omega) digit
    exact ⟨bcd, by rw [value, bcdValue, bcdValue]; omega⟩
  · have c : decide (16 * (d.toNat / 16 - s.toNat / 16 - k : Int) + low < 0) = false := decide_eq_false (by omega)
    rw [c, if_neg (by omega), Bool.toNat_false]
    obtain ⟨bcd, value⟩ := bcd_of_digits (b := BitVec.ofInt 8 (16 * (d.toNat / 16 - s.toNat / 16 - k : Int) + low))
      (high := d.toNat / 16 - s.toNat / 16 - k) (by rw [BitVec.toNat_ofInt]; omega) (by omega) digit
    exact ⟨bcd, by rw [value, bcdValue, bcdValue]; omega⟩

end

/-! ### The operations with their flags -/

section
variable (src d : Byte) (old : Ccr)

theorem opAbcd_sum : DecimalSum src d (opAbcd src d old).1 old (opAbcd src d old).2 := by
  intro hs hd
  obtain ⟨bcd, value⟩ := decimalAdd_value hs hd old.x
  exact ⟨bcd, _, value, decimalFlags_effect ..⟩

theorem opSbcd_difference : DecimalDifference src d (opSbcd src d old).1 old (opSbcd src d old).2 := by
  intro hs hd
  obtain ⟨bcd, value⟩ := decimalSub_value hs hd old.x
  exact ⟨bcd, _, value, decimalFlags_effect ..⟩

theorem opNbcd_difference : DecimalDifference d 0 (opNbcd d old).1 old (opNbcd d old).2 := by
  intro hs hd
  obtain ⟨bcd, value⟩ := decimalSub_value hs hd old.x
  exact ⟨bcd, _, value, decimalFlags_effect ..⟩

end

/-- Settles O21: the register forms change a data register, the others a location, by one operation on two bytes. -/
theorem decimalArithmetic : Obligations.DecimalArithmetic := by
  intro x y ea s _ _ _ v d
  refine ⟨?abcd, ?sbcd, ?abcdMem, ?sbcdMem, ?nbcd⟩
  case abcd =>
    obtain ⟨only, value, high, flags⟩ := modifyDreg_effect x .b (opAbcd (s.dregAt .b y)) s
    have result := opAbcd_sum (s.dregAt .b y) (s.dregAt .b x) s.ccr
    rw [← flags, ← value] at result
    exact ⟨_, rfl, result, high, only, memKept_of_mem fun _ => rfl⟩
  case sbcd =>
    obtain ⟨only, value, high, flags⟩ := modifyDreg_effect x .b (opSbcd (s.dregAt .b y)) s
    have result := opSbcd_difference (s.dregAt .b y) (s.dregAt .b x) s.ccr
    rw [← flags, ← value] at result
    exact ⟨_, rfl, result, high, only, memKept_of_mem fun _ => rfl⟩
  case abcdMem =>
    obtain ⟨rewrites, flags⟩ := modifyEA_rewrites (.predec x) .b (opAbcd v.1) v.2
    have result := opAbcd_sum v.1 d.1 v.2.ccr
    rw [← flags, readEA_ccr] at result
    exact ⟨_, _, rfl, result, readEA_ccr .. ▸ rewrites⟩
  case sbcdMem =>
    obtain ⟨rewrites, flags⟩ := modifyEA_rewrites (.predec x) .b (opSbcd v.1) v.2
    have result := opSbcd_difference v.1 d.1 v.2.ccr
    rw [← flags, readEA_ccr] at result
    exact ⟨_, _, rfl, result, readEA_ccr .. ▸ rewrites⟩
  case nbcd =>
    obtain ⟨rewrites, flags⟩ := modifyEA_rewrites ea .b opNbcd s
    have result := opNbcd_difference (readEA ea .b s).1 s.ccr
    rw [← flags] at result
    exact ⟨_, _, rfl, result, rewrites⟩

end Sys2Proof.Machine
end

section
/-! AND, OR, EOR, NOT and the bit instructions. `LogicFamily` (O22) and `BitInstructions` (O25) follow. -/
namespace Sys2Proof.Machine

/-! ### Logic (R300) -/

/-- `res` is a boolean operation on each bit of two operands. -/
def Bitwise {n : Nat} (op : Bool → Bool → Bool) (d src res : BitVec n) : Prop :=
  ∀ k, k < n → res.getLsbD k = op (d.getLsbD k) (src.getLsbD k)

section
variable {n : Nat} (d src : BitVec n)

theorem bitwise_and : Bitwise (· && ·) d src (d &&& src) := fun _ _ => BitVec.getLsbD_and

theorem bitwise_or : Bitwise (· || ·) d src (d ||| src) := fun _ _ => BitVec.getLsbD_or

theorem bitwise_xor : Bitwise (· ^^ ·) d src (d ^^^ src) := fun _ _ => BitVec.getLsbD_xor

theorem bitwise_not : Bitwise (fun b _ => !b) d src (~~~d) := fun k hk => by
  rw [BitVec.getLsbD_not, decide_eq_true hk, Bool.true_and]

end

/-- A location changed by a function of its value, with the std flags of the result (R300). -/
theorem modifyEA_logicResult (ea : EA) (sz : Size) (f : BitVec sz.bits → BitVec sz.bits) {s w : State}
    (flags : w.ccr = s.ccr) :
    let t := modifyEA ea sz (fun d old => logicResult (f d) old) w
    StdFlags (f (readEA ea sz w).1) s.ccr t.ccr ∧ Rewrites ea sz w t (f (readEA ea sz w).1) := by
  intro t
  obtain ⟨rewrites, ccr⟩ := modifyEA_rewrites ea sz (fun d old => logicResult (f d) old) w
  exact ⟨ccr ▸ flags ▸ stdFlags_std _ _, rewrites⟩

/-- A data register changed by a function of a source operand and its value, with the std flags of the result (R300). -/
theorem eaToDreg_logicResult (r : Fin 8) (sz : Size) (ea : EA) (f : BitVec sz.bits → BitVec sz.bits → BitVec sz.bits)
    (s : State) :
    let t := eaToDreg r sz ea (fun src d old => logicResult (f d src) old) s
    t.dregAt sz r = f (s.dregAt sz r) (readEA ea sz s).1 ∧ KeepsHigh sz (s.dreg r) (t.dreg r) ∧
      StdFlags (t.dregAt sz r) s.ccr t.ccr ∧ OnlyDregCcr r (readEA ea sz s).2 t ∧ MemKept [] s t := by
  intro t
  obtain ⟨only, value, high, flags, kept⟩ :=
    eaToDreg_effect r sz ea (fun src d old => logicResult (f d src) old) s
  exact ⟨value, high, value ▸ flags ▸ stdFlags_std _ _, only, kept⟩

/-- Settles O22: one operation on each bit, in a data register or at a location. -/
theorem logicFamily : Obligations.LogicFamily := by
  intro r sz ea s _ _ _ i
  have fetched : i.2.ccr = s.ccr := congrArg StatusReg.ccr (fetchImm_sr sz s)
  refine ⟨?andEaDn, ?orEaDn, ?andDnEa, ?orDnEa, ?eor, ?andi, ?ori, ?eori, ?not⟩
  case andEaDn =>
    obtain ⟨value, rest⟩ := eaToDreg_logicResult r sz ea (· &&& ·) s
    exact ⟨_, rfl, value ▸ bitwise_and _ _, rest⟩
  case orEaDn =>
    obtain ⟨value, rest⟩ := eaToDreg_logicResult r sz ea (· ||| ·) s
    exact ⟨_, rfl, value ▸ bitwise_or _ _, rest⟩
  case andDnEa => exact ⟨_, rfl, _, bitwise_and _ _, modifyEA_logicResult ea sz (· &&& s.dregAt sz r) rfl⟩
  case orDnEa => exact ⟨_, rfl, _, bitwise_or _ _, modifyEA_logicResult ea sz (· ||| s.dregAt sz r) rfl⟩
  case eor => exact ⟨_, rfl, _, bitwise_xor _ _, modifyEA_logicResult ea sz (· ^^^ s.dregAt sz r) rfl⟩
  case andi => exact ⟨_, rfl, _, bitwise_and _ _, modifyEA_logicResult ea sz (· &&& i.1) fetched⟩
  case ori => exact ⟨_, rfl, _, bitwise_or _ _, modifyEA_logicResult ea sz (· ||| i.1) fetched⟩
  case eori => exact ⟨_, rfl, _, bitwise_xor _ _, modifyEA_logicResult ea sz (· ^^^ i.1) fetched⟩
  case not => exact ⟨_, rfl, _, bitwise_not _ 0, modifyEA_logicResult ea sz (~~~·) rfl⟩

/-! ### Bit instructions (R320) -/

section
variable {n : Nat} (b : Nat) (v : BitVec n)

/-- `res` is `v` but for the bit that a bit number uses, changed by `op` (R320). -/
def ChangesBit (op : Bool → Bool) (res : BitVec n) : Prop :=
  ∀ k, k < n → res.getLsbD k = if k = b % n then op (v.getLsbD k) else v.getLsbD k

theorem getLsbD_bitMask {k : Nat} (hk : k < n) : (bitMask n b).getLsbD k = decide (k = b % n) := by
  have used : b % n < n := Nat.mod_lt b (by omega)
  rw [bitMask, ← BitVec.twoPow_eq, BitVec.getLsbD_twoPow, decide_eq_true used, Bool.true_and, decide_eq_decide]
  exact eq_comm

theorem opBchg_effect (old : Ccr) :
    ChangesBit b v (fun x => !x) (opBchg b v old).1 ∧ (opBchg b v old).2 = bitFlags v b old := by
  refine ⟨fun k hk => ?_, rfl⟩
  rw [opBchg, BitVec.getLsbD_xor, getLsbD_bitMask b hk]
  split <;> simp [*]

theorem opBclr_effect (old : Ccr) :
    ChangesBit b v (fun _ => false) (opBclr b v old).1 ∧ (opBclr b v old).2 = bitFlags v b old := by
  refine ⟨fun k hk => ?_, rfl⟩
  rw [opBclr, BitVec.getLsbD_and, BitVec.getLsbD_not, getLsbD_bitMask b hk]
  split <;> simp [*]

theorem opBset_effect (old : Ccr) :
    ChangesBit b v (fun _ => true) (opBset b v old).1 ∧ (opBset b v old).2 = bitFlags v b old := by
  refine ⟨fun k hk => ?_, rfl⟩
  rw [opBset, BitVec.getLsbD_or, getLsbD_bitMask b hk]
  split <;> simp [*]

end

/-- A location changed in one bit of its value, with Z from the old bit and the other flags kept (R320). -/
theorem modifyEA_changesBit (ea : EA) {sz : Size} {op : BitVec sz.bits → Ccr → BitVec sz.bits × Ccr} {b : Nat}
    {change : Bool → Bool} {s w : State}
    (effect : ∀ v old, ChangesBit b v change (op v old).1 ∧ (op v old).2 = bitFlags v b old) (kept : w.ccr = s.ccr) :
    let v := (readEA ea sz w).1
    let t := modifyEA ea sz op w
    ∃ res, t.ccr = bitFlags v b s.ccr ∧ Rewrites ea sz w t res ∧ ChangesBit b v change res := by
  intro v t
  obtain ⟨rewrites, flags⟩ := modifyEA_rewrites ea sz op w
  obtain ⟨bit, z⟩ := effect v w.ccr
  exact ⟨_, by rw [flags, z, kept], rewrites, bit⟩

/-- BTST: Z and nothing else, after the operand was read (R321). -/
theorem btstAt_effect (b : Nat) (ea : EA) (s : State) :
    let t := btstAt b ea s
    t.ccr = bitFlags (readEA ea (bitSize ea) s).1 b s.ccr ∧ OnlyCcr (readEA ea (bitSize ea) s).2 t ∧
      MemKept [] s t :=
  ⟨congrArg (bitFlags _ b) (readEA_ccr ..), rfl, memKept_readEA rfl⟩

/-- Settles O25: a test of a bit, and three operations on one bit of a location, by a fetched number or a register's. -/
theorem bitInstructions : Obligations.BitInstructions := by
  intro r ea s sz _ _ i n d
  refine ⟨?btstImm, ?btstReg, ?bchgImm, ?bchgReg, ?bclrImm, ?bclrReg, ?bsetImm, ?bsetReg⟩
  case btstImm =>
    obtain ⟨z, only, kept⟩ := btstAt_effect n ea i.2
    exact ⟨_, rfl, z, only, .of_same (same_fetch16 s) kept⟩
  case btstReg => exact ⟨_, rfl, btstAt_effect d ea s⟩
  case bchgImm => exact ⟨_, rfl, modifyEA_changesBit ea (opBchg_effect n) rfl⟩
  case bchgReg => exact ⟨_, rfl, modifyEA_changesBit ea (opBchg_effect d) rfl⟩
  case bclrImm => exact ⟨_, rfl, modifyEA_changesBit ea (opBclr_effect n) rfl⟩
  case bclrReg => exact ⟨_, rfl, modifyEA_changesBit ea (opBclr_effect d) rfl⟩
  case bsetImm => exact ⟨_, rfl, modifyEA_changesBit ea (opBset_effect n) rfl⟩
  case bsetReg => exact ⟨_, rfl, modifyEA_changesBit ea (opBset_effect d) rfl⟩

end Sys2Proof.Machine
end

section
/-! Shifts and rotates as runs of one-bit steps. `Shifts` (O23) and `RotateFamily` (O24) follow. -/
namespace Sys2Proof.Machine

/-! ### Runs of steps (R310) -/

section
variable {n : Nat} {k : ShiftKind}

/-- One more step can come last as well as first. -/
theorem shiftRun_succ (k : ShiftKind) (c : Nat) (t : ShiftState n) :
    shiftRun k (c + 1) t = shiftStep k (shiftRun k c t) := by
  induction c generalizing t with
  | zero => rfl
  | succ c ih => exact ih (shiftStep k t)

/-- What holds before the first step and is carried on by each step holds after any count. -/
theorem shiftRun_induction {P : Nat → ShiftState n → Prop} {t : ShiftState n} (start : P 0 t)
    (step : ∀ c t, P c t → P (c + 1) (shiftStep k t)) (c : Nat) : P c (shiftRun k c t) := by
  induction c with
  | zero => exact start
  | succ c ih => exact shiftRun_succ k c t ▸ step c _ ih

/-- Only ASL changes V. -/
theorem shiftRun_v (h : k ≠ .asl) (c : Nat) (t : ShiftState n) : (shiftRun k c t).v = t.v := by
  refine shiftRun_induction (P := fun _ u => u.v = t.v) rfl (fun _ u kept => ?_) c
  cases k with
  | asl => exact absurd rfl h
  | _ => exact kept

end

/-- A law of the shifts of one kind is a law of its register and memory forms. -/
theorem shiftLaw_of_shiftBy {law : (n : Nat) → Nat → BitVec n → BitVec n → Ccr → Ccr → Prop} (k : ShiftKind)
    {reg : ShiftCount → Size → Fin 8 → Instr} {mem : EA → Instr}
    (execReg : ∀ count sz r s, exec (reg count sz r) s = .next (shiftDreg k count sz r s))
    (execMem : ∀ ea s, exec (mem ea) s = .next (shiftEa k ea s))
    (holds : ∀ (n : Nat), 0 < n → ∀ (c : Nat) (v : BitVec n) (old : Ccr),
      law n c v (shiftBy k c v old).1 old (shiftBy k c v old).2) :
    ShiftLaw law reg mem := by
  intro count sz r ea s c
  have counted : c = shiftCount count s := by cases count <;> rfl
  constructor
  · obtain ⟨only, value, high, flags⟩ := modifyDreg_effect r sz (shiftBy k (shiftCount count s)) s
    refine ⟨_, execReg .., ?_, ?_, high, only, memKept_of_mem fun _ => rfl⟩
    · exact counted ▸ value ▸ flags ▸ holds sz.bits (bits_pos sz) ..
    · exact value ▸ flags ▸ nz_flags _ _ rfl rfl
  · obtain ⟨rewrites, flags⟩ := modifyEA_rewrites ea .w (shiftBy k 1) s
    refine ⟨_, _, execMem .., ?_, ?_, rewrites⟩
    · exact flags ▸ holds 16 (by decide) 1 (readEA ea .w s).1 s.ccr
    · exact flags ▸ nz_flags _ _ rfl rfl

/-! ### Shifts (R311 to R314) -/

/-- After `c` steps of a shift: the value, the last bit out in C and X, X as it was if no bit came out. `values` gives
the value by the count, `bits` the bits that come out, in their order. -/
structure Shifted {n : Nat} (values : Nat → BitVec n) (bits : Nat → Bool) (x : Bool) (c : Nat) (t : ShiftState n) :
    Prop where
  value : t.val = values c
  carry : t.c = (decide (0 < c) && bits (c - 1))
  extend : t.x = if c = 0 then x else t.c

section
variable {n : Nat} (v : BitVec n) (old : Ccr) (c : Nat)

theorem Shifted.step {values : Nat → BitVec n} {bits : Nat → Bool} {x : Bool} {c : Nat} {t : ShiftState n}
    (value : t.val = values (c + 1)) (carry : t.c = bits c) (extend : t.x = t.c) : Shifted values bits x (c + 1) t :=
  ⟨value, by simpa using carry, by simpa using extend⟩

/-- A step to the left, whatever it does with V. -/
theorem Shifted.left {x : Bool} {c : Nat} {t u : ShiftState n} (h : Shifted (v <<< ·) v.getMsbD x c t)
    (value : u.val = t.val <<< 1) (carry : u.c = t.val.msb) (extend : u.x = u.c) :
    Shifted (v <<< ·) v.getMsbD x (c + 1) u := by
  refine .step ?_ ?_ extend
  · rw [value, h.value, BitVec.shiftLeft_add]
  · rw [carry, h.value, BitVec.msb_shiftLeft]

theorem shifted_left_zero (k : ShiftKind) (hk : (shiftStart k v old).c = false) :
    Shifted (v <<< ·) v.getMsbD old.x 0 (shiftStart k v old) := ⟨(BitVec.shiftLeft_zero v).symm, hk, rfl⟩

theorem shifted_lsl : Shifted (v <<< ·) v.getMsbD old.x c (shiftRun .lsl c (shiftStart .lsl v old)) :=
  shiftRun_induction (shifted_left_zero v old .lsl rfl) (fun _ _ h => h.left v rfl rfl rfl) c

/-- A step to the left doubles the signed value exactly if the most significant bit does not change. -/
theorem shiftLeft_one_doubles (hn : 0 < n) :
    (FitsSigned n (2 * v.toInt) ↔ (v <<< 1).msb = v.msb) ∧
      (FitsSigned n (2 * v.toInt) → (v <<< 1).toInt = 2 * v.toInt) := by
  obtain ⟨m, rfl⟩ := Nat.exists_eq_add_one_of_ne_zero hn.ne'
  have old := toInt_cases v
  have new := toInt_cases (v <<< 1)
  have bound := v.isLt
  have double : (v <<< 1).toNat = 2 * v.toNat % (2 * 2 ^ m) := by
    rw [BitVec.toNat_shiftLeft, Nat.shiftLeft_eq, pow_one, mul_comm, pow_succ']
  rw [pow_succ'] at bound
  simp only [fitsSigned_succ, BitVec.msb_eq_toInt, decide_eq_decide]
  rcases Nat.lt_or_ge (2 * v.toNat) (2 * 2 ^ m) with fits | wraps
  · rw [Nat.mod_eq_of_lt fits] at double
    omega
  · rw [Nat.mod_eq_sub_mod wraps, Nat.mod_eq_of_lt (by omega)] at double
    omega

theorem shiftStep_asl_v (t : ShiftState n) :
    (shiftStep .asl t).v = true ↔ t.v = true ∨ (t.val <<< 1).msb ≠ t.val.msb := by
  simp [shiftStep]

/-- V after `c` steps of ASL, and the signed value as long as it fits (R311). -/
def AslOverflow (c : Nat) (t : ShiftState n) : Prop :=
  (t.v = true ↔ ¬ FitsSigned n (v.toInt * 2 ^ c)) ∧ (FitsSigned n (v.toInt * 2 ^ c) → t.val.toInt = v.toInt * 2 ^ c)

theorem aslOverflow_zero (hn : 0 < n) : AslOverflow v 0 (shiftStart .asl v old) := by
  have fits : FitsSigned n (v.toInt * 2 ^ 0) := by
    obtain ⟨m, rfl⟩ := Nat.exists_eq_add_one_of_ne_zero hn.ne'
    rw [pow_zero, mul_one, fitsSigned_succ]
    exact (toInt_cases v).2
  exact ⟨iff_of_false Bool.false_ne_true (not_not_intro fits), fun _ => (mul_one _).symm⟩

theorem aslOverflow_step {v : BitVec n} {c : Nat} {t : ShiftState n} (hn : 0 < n) (h : AslOverflow v c t) :
    AslOverflow v (c + 1) (shiftStep .asl t) := by
  obtain ⟨overflow, value⟩ := h
  obtain ⟨doubles, double⟩ := shiftLeft_one_doubles t.val hn
  have power : v.toInt * 2 ^ (c + 1) = 2 * (v.toInt * 2 ^ c) := by rw [pow_succ]; ring
  unfold AslOverflow
  rw [shiftStep_asl_v, power]
  by_cases fits : FitsSigned n (v.toInt * 2 ^ c)
  · rw [← value fits]
    exact ⟨(or_iff_right (mt overflow.1 (not_not_intro fits))).trans doubles.not.symm, double⟩
  · have tooBig : ¬ FitsSigned n (2 * (v.toInt * 2 ^ c)) := by
      unfold FitsSigned at fits ⊢
      omega
    exact ⟨iff_of_true (.inl (overflow.2 fits)) tooBig, fun h => absurd h tooBig⟩

theorem shifted_asl : Shifted (v <<< ·) v.getMsbD old.x c (shiftRun .asl c (shiftStart .asl v old)) :=
  shiftRun_induction (shifted_left_zero v old .asl rfl) (fun _ _ h => h.left v rfl rfl rfl) c

theorem shifted_lsr : Shifted (v >>> ·) v.getLsbD old.x c (shiftRun .lsr c (shiftStart .lsr v old)) := by
  refine shiftRun_induction ⟨(BitVec.ushiftRight_zero v).symm, rfl, rfl⟩ (fun c t h => .step ?_ ?_ rfl) c
  · show t.val >>> 1 = v >>> (c + 1)
    rw [h.value, BitVec.shiftRight_add]
  · show t.val.getLsbD 0 = v.getLsbD c
    rw [h.value, BitVec.getLsbD_ushiftRight, Nat.add_zero]

theorem getLsbD_lowBit (b : Bool) {i : Nat} (hi : i < n) : (lowBit n b).getLsbD i = (decide (i = 0) && b) := by
  rw [lowBit, BitVec.getLsbD_setWidth, BitVec.getLsbD_ofBool, decide_eq_true hi, Bool.true_and]

theorem getLsbD_highBit (b : Bool) {i : Nat} (hi : i < n) :
    (highBit n b).getLsbD i = (decide (i = n - 1) && b) := by
  rw [highBit, BitVec.getLsbD_shiftLeft, getLsbD_lowBit b (by omega), decide_eq_true hi, Bool.true_and,
    ← Bool.and_assoc, ← decide_not, ← Bool.decide_and]
  congr 2
  rw [eq_iff_iff]
  omega

/-- A step of ASR divides the signed value (R312). -/
theorem asrStep_eq : v >>> 1 ||| highBit n v.msb = v.sshiftRight 1 := by
  refine BitVec.eq_of_getLsbD_eq fun i hi => ?_
  rw [BitVec.getLsbD_or, BitVec.getLsbD_ushiftRight, getLsbD_highBit _ hi, BitVec.getLsbD_sshiftRight,
    decide_eq_false (Nat.not_le.2 hi), Bool.not_false, Bool.true_and]
  split
  · rw [decide_eq_false (by omega), Bool.false_and, Bool.or_false]
  · rw [decide_eq_true (by omega), Bool.true_and, BitVec.getLsbD_of_ge v _ (by omega), Bool.false_or]

theorem shifted_asr (hn : 0 < n) :
    Shifted v.sshiftRight (fun i => v.getLsbD (min i (n - 1))) old.x c (shiftRun .asr c (shiftStart .asr v old)) := by
  refine shiftRun_induction ⟨BitVec.sshiftRight_zero.symm, rfl, rfl⟩ (fun c t h => .step ?_ ?_ rfl) c
  · show t.val >>> 1 ||| highBit n t.val.msb = v.sshiftRight (c + 1)
    rw [asrStep_eq, h.value, BitVec.sshiftRight_add]
  · show t.val.getLsbD 0 = v.getLsbD (min c (n - 1))
    rw [h.value, BitVec.getLsbD_sshiftRight, decide_eq_false (Nat.not_le.2 hn), Bool.not_false, Bool.true_and,
      Nat.add_zero]
    split
    · rw [min_eq_left (by omega)]
    · rw [min_eq_right (by omega), BitVec.msb_eq_getLsbD_last]

theorem toNat_shiftLeft_eq : (v <<< c).toNat = v.toNat * 2 ^ c % 2 ^ n := by
  rw [BitVec.toNat_shiftLeft, Nat.shiftLeft_eq]

theorem toNat_ushiftRight_eq : (v >>> c).toNat = v.toNat / 2 ^ c := by
  rw [BitVec.toNat_ushiftRight, Nat.shiftRight_eq_div_pow]

theorem toInt_sshiftRight_eq : (v.sshiftRight c).toInt = v.toInt / 2 ^ c := by
  rw [BitVec.toInt_sshiftRight, Int.shiftRight_eq_div_pow, Nat.cast_pow]
  rfl

/-- The last bit out on the left, by its place in the operand. -/
theorem lastOut_left :
    (decide (0 < c) && v.getMsbD (c - 1)) = (decide (0 < c) && decide (c ≤ n) && v.getLsbD (n - c)) := by
  cases c with
  | zero => rfl
  | succ c => rw [Nat.add_sub_cancel, BitVec.getMsbD, Bool.and_assoc, Nat.sub_add_eq, Nat.sub_right_comm]; rfl

end

/-- Settles O23: the value and the last bit out by induction on the steps; V of ASL by the sign of each double. -/
theorem shifts : Obligations.Shifts := by
  refine ⟨⟨?asl, ?lsl⟩, ?asr, ?lsr⟩
  case asl =>
    refine shiftLaw_of_shiftBy .asl (fun _ _ _ _ => rfl) (fun _ _ => rfl) fun n hn c v old => ?_
    obtain ⟨value, carry, extend⟩ := shifted_asl v old c
    obtain ⟨overflow, -⟩ := shiftRun_induction (aslOverflow_zero v old hn) (fun _ _ => aslOverflow_step hn) c
    exact ⟨(congrArg BitVec.toNat value).trans (toNat_shiftLeft_eq v c), ⟨carry.trans (lastOut_left v c), extend⟩,
      overflow⟩
  case lsl =>
    refine shiftLaw_of_shiftBy .lsl (fun _ _ _ _ => rfl) (fun _ _ => rfl) fun n _ c v old => ?_
    obtain ⟨value, carry, extend⟩ := shifted_lsl v old c
    exact ⟨(congrArg BitVec.toNat value).trans (toNat_shiftLeft_eq v c), ⟨carry.trans (lastOut_left v c), extend⟩,
      shiftRun_v (by decide) c _⟩
  case asr =>
    refine shiftLaw_of_shiftBy .asr (fun _ _ _ _ => rfl) (fun _ _ => rfl) fun n hn c v old => ?_
    obtain ⟨value, carry, extend⟩ := shifted_asr v old c hn
    exact ⟨(congrArg BitVec.toInt value).trans (toInt_sshiftRight_eq v c), carry, extend,
      shiftRun_v (by decide) c _⟩
  case lsr =>
    refine shiftLaw_of_shiftBy .lsr (fun _ _ _ _ => rfl) (fun _ _ => rfl) fun n _ c v old => ?_
    obtain ⟨value, carry, extend⟩ := shifted_lsr v old c
    exact ⟨(congrArg BitVec.toNat value).trans (toNat_ushiftRight_eq v c), carry, extend,
      shiftRun_v (by decide) c _⟩

/-! ### Rotates (R315 to R318) -/

/-- Each bit of `w` is the bit of `v` that moves there when all of them move up by `c` places, round the end: `w` is `v`
rotated left by `c`, and `v` is `w` rotated right by `c`. -/
def Rotated {n : Nat} (c : Nat) (v w : BitVec n) : Prop := ∀ k, k < n → w.getLsbD ((k + c) % n) = v.getLsbD k

section
variable {n : Nat}

theorem Rotated.zero (v : BitVec n) : Rotated 0 v v := fun k hk => by rw [Nat.add_zero, Nat.mod_eq_of_lt hk]

theorem Rotated.trans {a b : Nat} {u v w : BitVec n} (h : Rotated a u v) (g : Rotated b v w) :
    Rotated (a + b) u w := fun k hk => by
  rw [← h k hk, ← g _ (Nat.mod_lt _ (by omega)), Nat.mod_add_mod, Nat.add_assoc]

/-- A rotation by one place, said of the bits below the top one and of the top one. -/
theorem rotated_one {v w : BitVec n} (up : ∀ k, k + 1 < n → w.getLsbD (k + 1) = v.getLsbD k)
    (round : w.getLsbD 0 = v.getLsbD (n - 1)) : Rotated 1 v w := fun k hk => by
  rcases Nat.lt_or_ge (k + 1) n with below | top
  · rw [Nat.mod_eq_of_lt below, up k below]
  · rw [show k + 1 = n by omega, Nat.mod_self, round, show n - 1 = k by omega]

variable (v : BitVec n) (x : Bool) (t : ShiftState n) (c : Nat) (hn : 0 < n)

/-- The bits of an operand moved up, with one that comes in at the bottom. -/
theorem getLsbD_movedUp {i : Nat} (hi : i < n) :
    (v <<< 1 ||| lowBit n x).getLsbD i = if i = 0 then x else v.getLsbD (i - 1) := by
  rw [BitVec.getLsbD_or, BitVec.getLsbD_shiftLeft, getLsbD_lowBit x hi]
  split <;> simp [*]

/-- The bits of an operand moved down, with one that comes in at the top. -/
theorem getLsbD_movedDown {i : Nat} (hi : i < n) :
    (v >>> 1 ||| highBit n x).getLsbD i = if i = n - 1 then x else v.getLsbD (i + 1) := by
  rw [BitVec.getLsbD_or, BitVec.getLsbD_ushiftRight, getLsbD_highBit x hi, Nat.add_comm 1]
  split
  · rw [BitVec.getLsbD_of_ge v _ (by omega), Bool.false_or]; simp [*]
  · simp [*]

include hn

theorem rotated_rolStep : Rotated 1 t.val (shiftStep .rol t).val := by
  refine rotated_one (fun k hk => ?_) ?_
  · exact (getLsbD_movedUp _ _ hk).trans (if_neg k.succ_ne_zero)
  · exact ((getLsbD_movedUp _ _ hn).trans (if_pos rfl)).trans (BitVec.msb_eq_getLsbD_last _)

theorem rotated_rorStep : Rotated 1 (shiftStep .ror t).val t.val := by
  refine rotated_one (fun k hk => ?_) ?_
  · exact ((getLsbD_movedDown _ _ (by omega)).trans (if_neg (by omega))).symm
  · exact ((getLsbD_movedDown _ _ (by omega)).trans (if_pos rfl)).symm

theorem rotated_roxlStep :
    Rotated 1 (.cons t.x t.val) (.cons (shiftStep .roxl t).x (shiftStep .roxl t).val) := by
  refine rotated_one (fun k hk => ?_) ?_
  · show (BitVec.cons t.val.msb (t.val <<< 1 ||| lowBit n t.x)).getLsbD (k + 1) = _
    rw [BitVec.getLsbD_cons, BitVec.getLsbD_cons, if_neg (by omega : k ≠ n)]
    split
    · rw [BitVec.msb_eq_getLsbD_last, show n - 1 = k by omega]
    · rw [getLsbD_movedUp _ _ (by omega), if_neg k.succ_ne_zero, Nat.add_sub_cancel]
  · show (BitVec.cons t.val.msb (t.val <<< 1 ||| lowBit n t.x)).getLsbD 0 = _
    rw [BitVec.getLsbD_cons, if_neg (by omega), getLsbD_movedUp _ _ hn, if_pos rfl, BitVec.getLsbD_cons,
      if_pos (Nat.add_sub_cancel ..)]

theorem rotated_roxrStep :
    Rotated 1 (.cons (shiftStep .roxr t).x (shiftStep .roxr t).val) (.cons t.x t.val) := by
  refine rotated_one (fun k hk => ?_) ?_
  · show _ = (BitVec.cons (t.val.getLsbD 0) (t.val >>> 1 ||| highBit n t.x)).getLsbD k
    rw [BitVec.getLsbD_cons, BitVec.getLsbD_cons, if_neg (by omega : k ≠ n), getLsbD_movedDown _ _ (by omega),
      if_congr (by omega : k + 1 = n ↔ k = n - 1) rfl rfl]
  · show _ = (BitVec.cons (t.val.getLsbD 0) (t.val >>> 1 ||| highBit n t.x)).getLsbD (n + 1 - 1)
    rw [BitVec.getLsbD_cons, if_neg (by omega), BitVec.getLsbD_cons, if_pos (Nat.add_sub_cancel ..)]

theorem rotated_rol : Rotated c t.val (shiftRun .rol c t).val :=
  shiftRun_induction (P := fun c u => Rotated c t.val u.val) (.zero _) (fun _ u h => h.trans (rotated_rolStep u hn)) c

theorem rotated_ror : Rotated c (shiftRun .ror c t).val t.val :=
  shiftRun_induction (P := fun c u => Rotated c u.val t.val) (.zero _)
    (fun c u h => Nat.add_comm 1 c ▸ (rotated_rorStep u hn).trans h) c

/-- ROXL rotates the operand with X above it (R317). -/
theorem rotated_roxl :
    let u := shiftRun .roxl c t
    Rotated c (.cons t.x t.val) (.cons u.x u.val) :=
  shiftRun_induction (P := fun c u => Rotated c (.cons t.x t.val) (.cons u.x u.val)) (.zero _)
    (fun _ u h => h.trans (rotated_roxlStep u hn)) c

/-- ROXR rotates the operand with X above it (R318). -/
theorem rotated_roxr :
    let u := shiftRun .roxr c t
    Rotated c (.cons u.x u.val) (.cons t.x t.val) :=
  shiftRun_induction (P := fun c u => Rotated c (.cons u.x u.val) (.cons t.x t.val)) (.zero _)
    (fun c u h => Nat.add_comm 1 c ▸ (rotated_roxrStep u hn).trans h) c

/-- C of ROL: the bit that came round last (R315). -/
theorem rolStep_carry : (shiftStep .rol t).c = (shiftStep .rol t).val.getLsbD 0 :=
  ((getLsbD_movedUp _ _ hn).trans (if_pos rfl)).symm

/-- C of ROR: the bit that came round last (R316). -/
theorem rorStep_carry : (shiftStep .ror t).c = (shiftStep .ror t).val.msb :=
  ((BitVec.msb_eq_getLsbD_last _).trans ((getLsbD_movedDown _ _ (by omega)).trans (if_pos rfl))).symm

omit hn

/-- A carry that each step makes of the value it leaves: after a count of 0 it is the 0 of the start. -/
theorem shiftRun_carry {k : ShiftKind} (out : BitVec n → Bool) (start : t.c = false)
    (step : ∀ u : ShiftState n, (shiftStep k u).c = out (shiftStep k u).val) :
    (shiftRun k c t).c = (decide (0 < c) && out (shiftRun k c t).val) := by
  cases c with
  | zero => exact start
  | succ c => rw [shiftRun_succ]; exact step _

/-- ROL and ROR keep X. -/
theorem shiftRun_x {k : ShiftKind} (h : k = .rol ∨ k = .ror) : (shiftRun k c t).x = t.x := by
  refine shiftRun_induction (P := fun _ u => u.x = t.x) rfl (fun _ _ kept => ?_) c
  rcases h with rfl | rfl <;> exact kept

/-- ROXL and ROXR leave X in C, by a count of 0 too (R317, R318). -/
theorem shiftRun_c_eq_x {k : ShiftKind} (h : k = .roxl ∨ k = .roxr) (start : t.c = t.x) :
    (shiftRun k c t).c = (shiftRun k c t).x := by
  refine shiftRun_induction (P := fun _ u => u.c = u.x) start (fun _ _ _ => ?_) c
  rcases h with rfl | rfl <;> rfl

end

/-- Settles O24: each step rotates by one place, the operand or the operand with X above it. -/
theorem rotateFamily : Obligations.RotateFamily := by
  refine ⟨⟨?rol, ?ror⟩, ?roxl, ?roxr⟩
  case rol =>
    refine shiftLaw_of_shiftBy .rol (fun _ _ _ _ => rfl) (fun _ _ => rfl) fun n hn c v old => ?_
    exact ⟨rotated_rol (shiftStart .rol v old) c hn, shiftRun_carry _ c (·.getLsbD 0) rfl (rolStep_carry · hn),
      shiftRun_x _ c (.inl rfl), shiftRun_v (by decide) c _⟩
  case ror =>
    refine shiftLaw_of_shiftBy .ror (fun _ _ _ _ => rfl) (fun _ _ => rfl) fun n hn c v old => ?_
    exact ⟨fun k hk => (rotated_ror (shiftStart .ror v old) c hn k hk).symm,
      shiftRun_carry _ c (·.msb) rfl (rorStep_carry · hn), shiftRun_x _ c (.inr rfl), shiftRun_v (by decide) c _⟩
  case roxl =>
    refine shiftLaw_of_shiftBy .roxl (fun _ _ _ _ => rfl) (fun _ _ => rfl) fun n hn c v old => ?_
    exact ⟨rotated_roxl (shiftStart .roxl v old) c hn, shiftRun_c_eq_x _ c (.inl rfl) rfl, shiftRun_v (by decide) c _⟩
  case roxr =>
    refine shiftLaw_of_shiftBy .roxr (fun _ _ _ _ => rfl) (fun _ _ => rfl) fun n hn c v old => ?_
    exact ⟨fun k hk => (rotated_roxr (shiftStart .roxr v old) c hn k hk).symm, shiftRun_c_eq_x _ c (.inr rfl) rfl,
      shiftRun_v (by decide) c _⟩

end Sys2Proof.Machine
end

section
/-! Program counters, calls and the stack, as the control instructions use them. `Branches` (O28) and
`JumpsAndReturns` (O29) follow. -/
namespace Sys2Proof.Machine

/-! ### Targets and calls -/

theorem onlyPc_setPc (v : Long) (s : State) : OnlyPc s (s.setPc v) := rfl

theorem onlyPc_setPc_of_eq {s w : State} (h : w = s) (v : Long) : OnlyPc s (w.setPc v) := h ▸ onlyPc_setPc v w

/-- A base plus a displacement that the instruction holds, as a program counter (R23, R340). -/
theorem isTarget_add {n : Nat} (h : n ≤ 32) (base : Long) (d : BitVec n) :
    IsTarget base d.toInt (evenAddr (base + d.signExtend 32)) := by
  rw [IsTarget, evenAddr_toNat, ← toNat_add_signExtend h]
  omega

/-- A call: the return address below the stack pointer, and then `pc` (R233, R342, R345). -/
theorem push32_setPc (ret target : Long) {s w : State} (h : Same s w) :
    let sp := w.areg 7 - 4
    let t := (push32 ret w).setPc target
    t.areg 7 = sp ∧ OnlyPc (writeLong .cpu sp ret (w.setAreg 7 sp)) t ∧ MemKept (accessBytes .cpu .l sp) s t := by
  intro sp t
  have pushed : t = (writeLong .cpu sp ret (w.setAreg 7 sp)).setPc target :=
    congrArg (·.setPc target) (push32_eq ret w)
  rw [pushed]
  refine ⟨?_, onlyPc_setPc .., memKept_memWrite (h.trans (same_setAreg ..)) .l sp ret⟩
  rw [State.setPc_areg, writeLong, memWrite_areg, State.areg_setAreg_self]

/-! ### Bcc, BRA, BSR -/

section
variable (disp : Byte) (s : State)

/-- The state after a branch's displacement: a byte of 0 takes the next word (R340). -/
theorem branchTarget_state : (branchTarget disp s).2 = if disp = 0 then (fetch16 .cpu s).2 else s := by
  unfold branchTarget
  split <;> rfl

theorem isTarget_branchTarget :
    IsTarget s.cpu.pc (if disp = 0 then (fetch16 .cpu s).1.toInt else disp.toInt)
      (evenAddr (branchTarget disp s).1) := by
  unfold branchTarget
  split
  · exact isTarget_add (by decide) s.cpu.pc (fetch16 .cpu s).1
  · exact isTarget_add (by decide) s.cpu.pc disp

theorem same_branchTarget : Same s (branchTarget disp s).2 := by
  rw [branchTarget_state]
  split
  · exact same_fetch16 s
  · exact .refl s

/-- A displacement's fetch moves `pc` only. -/
theorem branchTarget_regs : (branchTarget disp s).2.ccr = s.ccr ∧ (branchTarget disp s).2.areg 7 = s.areg 7 := by
  rw [branchTarget_state]
  split <;> exact ⟨rfl, rfl⟩

end

/-! ### DBcc -/

section
variable {c : Cond} {s : State} (r : Fin 8)

theorem exec_dbcc_done (h : condHolds c s.ccr = true) : exec (.dbcc c r) s = .next (fetch16 .cpu s).2 := if_pos h

/-- DBcc with its condition false: the low word one less, and the branch unless it was 0 (R343). -/
theorem exec_dbcc_count (h : condHolds c s.ccr = false) :
    let f := fetch16 .cpu s
    let left : Half := s.dregAt .w r - 1
    let w := f.2.setDregAt .w r left
    exec (.dbcc c r) s = .next (if left = 0xFFFF then w else w.setPc (s.cpu.pc + f.1.signExtend 32)) :=
  if_neg (ne_true_of_eq_false h)

end

theorem setDregAt_eq_setDreg (sz : Size) (r : Fin 8) (v : BitVec sz.bits) (s : State) :
    s.setDregAt sz r v = s.setDreg r ((s.setDregAt sz r v).dreg r) := by
  rw [State.setDregAt, State.dreg_setDreg_self]

/-- The low word of a register replaced by one less. -/
theorem setDregAt_pred_toNat (r : Fin 8) (s : State) :
    ((s.setDregAt .w r (s.dregAt .w r - 1)).dreg r).toNat =
      (s.dreg r).toNat / 2 ^ 16 * 2 ^ 16 + ((s.dreg r).toNat % 2 ^ 16 + 0xFFFF) % 2 ^ 16 := by
  have high := setDregAt_keepsHigh s .w r (s.dregAt .w r - 1)
  have low := congrArg BitVec.toNat (State.dregAt_setDregAt_self s .w r (s.dregAt .w r - 1))
  simp only [State.dregAt, KeepsHigh, Size.bits, BitVec.toNat_setWidth, BitVec.toNat_sub] at high low ⊢
  have one : BitVec.toNat (1 : Half) = 1 := rfl
  omega

/-- Settles O28: the displacement's fetch leaves the state that every clause starts from; a branch then sets `pc`, BSR
after its push, DBcc after its count. -/
theorem branches : Obligations.Branches := by
  refine ⟨?byteForms, ?dbcc⟩
  case byteForms =>
    intro c disp s f after d
    have fetched : (branchTarget disp s).2 = after := branchTarget_state disp s
    have target : IsTarget s.cpu.pc d (evenAddr (branchTarget disp s).1) := isTarget_branchTarget disp s
    have same := same_branchTarget disp s
    obtain ⟨flags, sp⟩ := branchTarget_regs disp s
    clear_value after
    subst fetched
    refine ⟨?bcc, ⟨_, rfl, onlyPc_setPc .., target, memKept_of_mem fun _ => same.mem⟩, ?bsr⟩
    case bcc =>
      cases h : condHolds c s.ccr with
      | true =>
        refine ⟨(branchTarget disp s).2.setPc (branchTarget disp s).1, ?_, onlyPc_setPc .., fun _ => target, nofun,
          memKept_of_mem fun _ => same.mem⟩
        exact congrArg Host.Outcome.next (if_pos (flags ▸ h))
      | false =>
        refine ⟨(branchTarget disp s).2, ?_, rfl, nofun, fun _ => rfl, memKept_of_mem fun _ => same.mem⟩
        exact congrArg Host.Outcome.next (if_neg (flags ▸ ne_true_of_eq_false h))
    case bsr =>
      obtain ⟨moved, only, kept⟩ := push32_setPc (branchTarget disp s).2.cpu.pc (branchTarget disp s).1 same
      rw [sp] at moved only kept
      exact ⟨_, rfl, moved, target, only, kept⟩
  case dbcc =>
    intro c r s f n
    cases h : condHolds c s.ccr with
    | true => exact ⟨_, exec_dbcc_done r h, memKept_of_mem fun _ => rfl, rfl, fun _ => rfl, nofun⟩
    | false =>
      have count := setDregAt_pred_toNat r f.2
      have last : s.dregAt .w r - 1 = 0xFFFF ↔ n = 0 := by
        simp only [State.dregAt, Size.bits, n]
        bv_omega
      refine ⟨_, exec_dbcc_count r h, ?_⟩
      have only := setDregAt_eq_setDreg .w r (s.dregAt .w r - 1) f.2
      by_cases zero : n = 0
      · rw [if_pos (last.2 zero)]
        exact ⟨memKept_of_mem fun _ => rfl, rfl, nofun, fun _ =>
          ⟨only, count, fun other => absurd zero other, fun _ => rfl⟩⟩
      · rw [if_neg (mt last.1 zero)]
        exact ⟨memKept_of_mem fun _ => rfl, rfl, nofun, fun _ =>
          ⟨onlyPc_setPc_of_eq only _, count,
            fun _ => isTarget_add (by decide) s.cpu.pc f.1, fun other => absurd other zero⟩⟩

/-! ### Pops and the condition codes -/

/-- With the default devices a pop is a read and a move of the stack pointer (R127, R233). -/
theorem pop32_default {s : State} (h : s.defaultDevices) :
    pop32 s = ((readLong .cpu (s.areg 7) s).1, s.setAreg 7 (s.areg 7 + 4)) := by
  simp only [pop32, readLong, memRead_state _ _ _ _ h]

theorem pop16_default {s : State} (h : s.defaultDevices) :
    pop16 s = ((readWord .cpu (s.areg 7) s).1, s.setAreg 7 (s.areg 7 + 2)) := by
  simp only [pop16, readWord, memRead_state _ _ _ _ h]

/-- The condition codes and an address register are written apart: S, which says what A7 is, stays. -/
theorem setAreg_setCcr (r : Fin 8) (v : Long) (f : Ccr) (s : State) :
    (s.setCcr f).setAreg r v = (s.setAreg r v).setCcr f := by
  by_cases low : r.val < 7
  · simp only [State.setAreg, dif_pos low]
    rfl
  · have mode : (s.setCcr f).cpu.sr.s = s.cpu.sr.s := rfl
    simp only [State.setAreg, dif_neg low, mode]
    split <;> rfl

/-- SR as a word is its bits above 4 and the condition codes (R24). -/
theorem StatusReg.toHalf_withCcr (r : StatusReg) (f : Ccr) :
    StatusReg.toHalf { r with ccr := f } = r.toHalf.extractLsb' 5 11 ++ f.toBits := by
  apply BitVec.eq_of_getLsbD_eq
  intro i hi
  simp only [BitVec.getLsbD_append, BitVec.getLsbD_extractLsb', StatusReg.getLsbD_toHalf]
  by_cases low : i < 5
  · interval_cases i <;> simp
  · have apart : f.toBits.getLsbD i = false := BitVec.getLsbD_of_ge _ _ (by omega)
    have above : r.ccr.toBits.getLsbD i = false := BitVec.getLsbD_of_ge _ _ (by omega)
    simp [low, apart, show 5 + (i - 5) = i by omega, above, show i - 5 < 11 by omega]

/-- A write of the condition codes, in numbers: bits 4:0 of SR, and none above them (R24). -/
theorem StatusReg.toHalf_withCcr_toNat (r : StatusReg) (v : BitVec 5) :
    (StatusReg.toHalf { r with ccr := Ccr.ofBits v }).toNat = r.toHalf.toNat / 32 * 32 + v.toNat := by
  rw [StatusReg.toHalf_withCcr, toNat_append_eq, Ccr.toBits_ofBits, BitVec.extractLsb'_toNat,
    Nat.shiftRight_eq_div_pow]
  have := r.toHalf.isLt
  omega

/-- RTR in closed form (R347). -/
theorem exec_rtr {s : State} (h : s.defaultDevices) :
    let sp := s.areg 7
    exec .rtr s = .next (((s.setAreg 7 (sp + 6)).setCcr
      (Ccr.ofBits ((readWord .cpu sp s).1.extractLsb' 0 5))).setPc (readLong .cpu (sp + 2) s).1) := by
  intro sp
  have restored : Same s ((s.setAreg 7 (sp + 2)).setCcr (Ccr.ofBits ((readWord .cpu sp s).1.extractLsb' 0 5))) :=
    (same_setAreg ..).trans (same_setCcr ..)
  have target := restored.memRead h .cpu .l (sp + 2)
  rw [exec, execRtr, pop16_default h, pop32_default (restored.defaultDevices h), State.setCcr_areg,
    State.areg_setAreg_self, readLong, target, setAreg_setCcr, setAreg_setAreg_self, BitVec.add_assoc]
  rfl

/-- Settles O29: JSR is a push of the next address and then the jump; the returns are pops. -/
theorem jumpsAndReturns : Obligations.JumpsAndReturns := by
  refine ⟨?jumps, ?returns⟩
  case jumps =>
    intro ea s a loc w
    have target := addrEA_eq loc
    have same : Same s w := same_locEA ea .l s
    obtain ⟨moved, only, kept⟩ := push32_setPc w.cpu.pc a same
    refine ⟨⟨w.setPc a, ?_, onlyPc_setPc .., evenAddr_toNat a, memKept_of_mem fun _ => same.mem⟩,
      ⟨(push32 w.cpu.pc w).setPc a, ?_, moved, evenAddr_toNat a, only, kept⟩⟩
    · rw [exec, execJmp, target]
    · rw [exec, execJsr, target]
  case returns =>
    intro s hd sp
    refine ⟨⟨(s.setAreg 7 (sp + 4)).setPc (readLong .cpu sp s).1, ?_, evenAddr_toNat _, onlyPc_setPc ..,
        memKept_of_mem fun _ => ?_⟩,
      ⟨_, exec_rtr hd, evenAddr_toNat _, onlyPc_setPc .., ?_, memKept_of_mem fun _ => ?_⟩, rfl⟩
    · rw [exec, execRts, pop32_default hd]
    · exact State.setAreg_mem ..
    · rw [State.setPc_cpu_sr, State.setCcr_cpu_sr, StatusReg.toHalf_withCcr_toNat, State.setAreg_cpu_sr,
        BitVec.extractLsb'_toNat, Nat.shiftRight_zero]
    · exact State.setAreg_mem ..

end Sys2Proof.Machine
end

section
/-! The instructions on CCR and SR, and the privileged ones. `CcrInstructions` (O34) and `PrivilegedInstructions` (O32)
follow. -/
namespace Sys2Proof.Machine

/-! ### Writes of the condition codes -/

theorem StatusReg.ccr_toBits (r : StatusReg) : r.ccr.toBits = r.toHalf.setWidth 5 := by
  conv_rhs => rw [show r.toHalf = r.toHalf.extractLsb' 5 11 ++ r.ccr.toBits from StatusReg.toHalf_withCcr r r.ccr]
  exact (setWidth_append _ _).symm

/-- The condition codes written with the low bits of a word, in a state with the old SR (R24). -/
theorem setCcr_ofBits {s w : State} (v : Half) (sr : w.cpu.sr = s.cpu.sr) (mem : s.defaultDevices → w.mem = s.mem) :
    let t := w.setCcr (Ccr.ofBits (v.setWidth 5))
    t.cpu.sr.toHalf.toNat = s.cpu.sr.toHalf.toNat / 32 * 32 + v.toNat % 32 ∧ OnlyCcr w t ∧ MemKept [] s t := by
  refine ⟨?_, rfl, memKept_of_mem mem⟩
  rw [State.setCcr_cpu_sr, StatusReg.toHalf_withCcr_toNat, sr, BitVec.toNat_setWidth]

/-- An immediate operation on CCR is the low part of the operation on SR (R364, R366, R368). -/
theorem immToCcr_effect (op : BitVec 5 → BitVec 5 → BitVec 5) (wide : Half → Half → Half)
    (low : ∀ a b, (wide a b).setWidth 5 = op (a.setWidth 5) (b.setWidth 5)) (s : State) :
    let f := fetch16 .cpu s
    let t := immToCcr op s
    t.cpu.sr.toHalf.toNat = s.cpu.sr.toHalf.toNat / 32 * 32 + (wide s.cpu.sr.toHalf f.1).toNat % 32 ∧
      OnlyCcr f.2 t ∧ MemKept [] s t := by
  intro f t
  have written : t = f.2.setCcr (Ccr.ofBits ((wide s.cpu.sr.toHalf f.1).setWidth 5)) := by
    rw [low, ← StatusReg.ccr_toBits]
    rfl
  rw [written]
  exact setCcr_ofBits _ rfl fun _ => rfl

/-- SR as a word has only the bits that exist (R24). -/
theorem StatusReg.toHalf_masked (r : StatusReg) : r.toHalf &&& 0xA71F = r.toHalf := by
  rw [← StatusReg.toHalf_ofHalf, StatusReg.ofHalf_toHalf]

/-- Settles O34: each form writes the low five bits of a word; MOVE SR overwrites its destination. -/
theorem ccrInstructions : Obligations.CcrInstructions := by
  intro ea s f old writes
  refine ⟨⟨_, rfl, setCcr_ofBits _ (readEA_sr ea .w s) fun hd => (same_readEA hd ea .w).mem⟩,
    ⟨_, rfl, immToCcr_effect (· &&& ·) (· &&& ·) (fun _ _ => BitVec.setWidth_and) s⟩,
    ⟨_, rfl, immToCcr_effect (· ||| ·) (· ||| ·) (fun _ _ => BitVec.setWidth_or) s⟩,
    ⟨_, rfl, immToCcr_effect (· ^^^ ·) (· ^^^ ·) (fun _ _ => BitVec.setWidth_xor) s⟩,
    ⟨_, _, rfl, rfl, ?_, StatusReg.toHalf_masked _, rfl, ?_⟩⟩
  · exact (writeLoc_sr ..).trans (locEA_sr ea .w s)
  · exact memKept_writeLoc ea .w s old s.ccr

/-! ### The privilege check and writes of SR -/

theorem privileged_user {s : State} (h : s.cpu.sr.s = false) (effect : State → State) :
    privileged effect s = takeException (.vector 8) (s.cpu.pc - 2) s := if_neg (ne_true_of_eq_false h)

theorem next_privileged {s : State} (h : s.cpu.sr.s = true) (effect : State → State) :
    (.next (privileged effect s) : Result) = .next (effect s) := congrArg _ (if_pos h)

/-- SR written as a whole (R24). -/
theorem setSr_ofHalf {s w : State} (v : Half) (mem : s.defaultDevices → w.mem = s.mem) :
    let t := w.setSr (StatusReg.ofHalf v)
    t.cpu.sr.toHalf = v &&& 0xA71F ∧ t = w.setSr t.cpu.sr ∧ MemKept [] s t :=
  ⟨StatusReg.toHalf_ofHalf v, rfl, memKept_of_mem mem⟩

/-- RTE's effect: SR and `pc` from the frame, SSP past it (R348). -/
theorem returnFromException_eq {s : State} (hs : s.cpu.sr.s = true) (hd : s.defaultDevices) :
    returnFromException s = { s with cpu := { s.cpu with
      sr := StatusReg.ofHalf (readWord .cpu s.cpu.ssp s).1,
      pc := evenAddr (readLong .cpu (s.cpu.ssp + 2) s).1, ssp := s.cpu.ssp + 6 } } := by
  have moved : Same s (s.setAreg 7 (s.cpu.ssp + 2)) := same_setAreg ..
  have second : pop32 (s.setAreg 7 (s.cpu.ssp + 2)) =
      ((readLong .cpu (s.cpu.ssp + 2) s).1, s.setAreg 7 (s.cpu.ssp + 6)) := by
    rw [pop32_default (moved.defaultDevices hd), State.areg_setAreg_self, setAreg_setAreg_self, BitVec.add_assoc,
      readLong, moved.memRead hd]
    rfl
  rw [returnFromException, pop16_default hd, areg7_supervisor hs]
  simp only [second]
  rw [setAreg7_supervisor _ hs]
  rfl

/-- Settles O32: every privileged instruction is `privileged` of its effect. -/
theorem privilegedInstructions : Obligations.PrivilegedInstructions := by
  refine ⟨?user, ?supervisor, ?rte⟩
  case user =>
    intro i ea r s user listed
    have checked : ∃ effect, exec i s = .next (privileged effect s) := by
      simp only [List.mem_cons, List.not_mem_nil, or_false] at listed
      rcases listed with rfl | rfl | rfl | rfl | rfl | rfl | rfl | rfl | rfl <;> exact ⟨_, rfl⟩
    obtain ⟨effect, runs⟩ := checked
    exact ⟨_, runs.trans (congrArg _ (privileged_user user effect)), exceptionTaken_takeException ..⟩
  case supervisor =>
    intro ea r s hs f writesSr
    refine ⟨⟨_, next_privileged hs _, setSr_ofHalf _ fun hd => (same_readEA hd ea .w).mem⟩,
      ⟨_, next_privileged hs _, setSr_ofHalf _ fun _ => rfl⟩,
      ⟨_, next_privileged hs _, setSr_ofHalf _ fun _ => rfl⟩,
      ⟨_, next_privileged hs _, setSr_ofHalf _ fun _ => rfl⟩,
      ⟨_, next_privileged hs _, ?stop⟩,
      ⟨_, next_privileged hs _, rfl, memKept_of_mem fun _ => rfl⟩,
      ⟨_, next_privileged hs _, onlyAreg_setAreg .., State.areg_setAreg_self ..,
        memKept_of_mem fun _ => State.setAreg_mem ..⟩,
      next_privileged hs _⟩
    case stop => exact setSr_ofHalf (w := f.2.setRun .stopped) f.1 fun _ => rfl
  case rte =>
    intro s hs hd
    refine ⟨_, (next_privileged hs _).trans (congrArg _ (returnFromException_eq hs hd)), StatusReg.toHalf_ofHalf _,
      evenAddr_toNat _, rfl, rfl, memKept_of_mem fun _ => rfl⟩

end Sys2Proof.Machine
end

section
/-! An exception and the return from it. `ExceptionRoundTrip` (O33) follows. -/
namespace Sys2Proof.Machine

section
variable (k : ExcKind) (savedPc : Long) {s : State} (h : FrameInRam s)
include h

/-- With its frame in main RAM an entry changes no bytes of memory but the frame's (R614). -/
theorem takeException_read_outside (wf : s.mem.wf = true) {a : Nat}
    (outside : a + 6 < s.cpu.ssp.toNat ∨ s.cpu.ssp.toNat ≤ a) :
    (takeException k savedPc s).mem.read a = s.mem.read a := by
  have ⟨_, low, _⟩ := h
  rw [takeException_pushedFrame, State.patch_mem, pushedFrame_ram k savedPc h, State.patch_mem, State.setMem_mem]
  exact (Memory.read_writeAt_outside (Memory.wf_write32 wf ..) .w _ a _ (by simp only [Size.bytes]; omega)).trans
    (Memory.read_writeAt_outside wf .l _ a _ (by simp only [Size.bytes]; omega))

/-- What RTE finds after an entry: SR and the saved `pc` (R614, R348). -/
theorem takeException_frame_read (wf : s.mem.wf = true) :
    let t := takeException k savedPc s
    (readWord .cpu t.cpu.ssp t).1 = s.cpu.sr.toHalf ∧ (readLong .cpu (t.cpu.ssp + 2) t).1 = savedPc := by
  intro t
  have taken := exceptionTaken_takeException k savedPc s
  obtain ⟨sr, pc⟩ := taken.frame wf h
  obtain ⟨even, low, high⟩ := h
  have word : t.cpu.ssp.toNat = s.cpu.ssp.toNat - 6 := by rw [taken.ssp]; bv_omega
  have long : (t.cpu.ssp + 2).toNat = s.cpu.ssp.toNat - 4 := by bv_omega
  constructor
  · rw [readWord, memRead_w_ram (by omega) (by omega), word]
    exact sr
  · rw [readLong, memRead_l_ram (by omega) (by omega), long]
    exact pc

end

/-- Settles O33: RTE reads back the frame that the entry pushed. -/
theorem exceptionRoundTrip : Obligations.ExceptionRoundTrip := by
  intro k savedPc s wf hd ram
  have taken := exceptionTaken_takeException k savedPc s
  have devices : (takeException k savedPc s).defaultDevices := by
    rw [taken.rest ram]
    exact hd
  obtain ⟨sr, pc⟩ := takeException_frame_read k savedPc ram wf
  have supervisor : (takeException k savedPc s).cpu.sr.s = true := taken.sr.1
  refine ⟨_, (next_privileged supervisor _).trans (congrArg _ (returnFromException_eq supervisor devices)), ?_, ?_,
    congrArg evenAddr pc, taken.data, taken.address, taken.usp, fun a => takeException_read_outside k savedPc ram wf⟩
  · exact (congrArg StatusReg.ofHalf sr).trans (StatusReg.ofHalf_toHalf _)
  · exact (congrArg (· + 6) taken.ssp).trans (BitVec.sub_add_cancel _ _)

end Sys2Proof.Machine
end

section
/-! The traps. `TrapInstructions` (O31) follows. -/
namespace Sys2Proof.Machine

/-! ### Their words -/

/-- The word of a row with one field, in its low bits. -/
theorem word_low {p k : Nat} {m : Half} (v : BitVec k) (hm : Enc.at_ 0 v &&& m = Enc.at_ 0 v)
    (hp : BitVec.ofNat 16 p &&& ~~~m = BitVec.ofNat 16 p) :
    BitVec.ofNat 16 p ||| Enc.at_ 0 v = BitVec.ofNat 16 (p + v.toNat) := by
  rw [or_eq_add hp hm (by simp), at_eq_ofNat, ← BitVec.ofNat_add]
  simp

theorem encode_trap (v : BitVec 4) : encode (.trap v) = BitVec.ofNat 16 (0x4E40 + v.toNat) :=
  word_low v ((coded_bits (m := 0x000F) (by decide) rfl).within v) rfl

theorem encode_lineA (d : BitVec 12) : encode (.lineA d) = BitVec.ofNat 16 (0xA000 + d.toNat) :=
  word_low d ((coded_bits (m := 0x0FFF) (by decide) rfl).within d) rfl

theorem encode_lineF (d : BitVec 12) : encode (.lineF d) = BitVec.ofNat 16 (0xF000 + d.toNat) :=
  word_low d ((coded_bits (m := 0x0FFF) (by decide) rfl).within d) rfl

/-! ### TRAPV and CHK -/

theorem trap_vector (v : BitVec 4) : (32 + v.setWidth 8 : Byte) = BitVec.ofNat 8 (32 + v.toNat) := by
  rw [BitVec.ofNat_add, BitVec.ofNat_toNat]
  rfl

section
variable (r : Fin 8) (ea : EA) (s : State)

/-- CHK within its bounds: some N, Z, V and C (R352). -/
theorem exec_chk_within (low : 0 ≤ (s.dregAt .w r).toInt)
    (high : (s.dregAt .w r).toInt ≤ (readEA ea .w s).1.toInt) :
    ∃ f : Ccr, f.x = s.ccr.x ∧ exec (.chk r ea) s = .next ((readEA ea .w s).2.setCcr f) := by
  have x := congrArg Ccr.x (readEA_ccr ea .w s)
  simp only [exec, execChk, readEA_dregAt]
  rw [if_neg (Int.not_lt.2 low), if_neg (Int.not_lt.2 high)]
  refine ⟨_, ?_, rfl⟩
  exact x

/-- CHK outside its bounds: vector 6, N telling the side (R352). -/
theorem exec_chk_outside (outside : (s.dregAt .w r).toInt < 0 ∨ (readEA ea .w s).1.toInt < (s.dregAt .w r).toInt) :
    ∃ f : Ccr, f.x = s.ccr.x ∧ (f.n = true ↔ (s.dregAt .w r).toInt < 0) ∧
      exec (.chk r ea) s =
        .next (takeException (.vector 6) (readEA ea .w s).2.cpu.pc ((readEA ea .w s).2.setCcr f)) := by
  have x := congrArg Ccr.x (readEA_ccr ea .w s)
  simp only [exec, execChk, readEA_dregAt]
  by_cases negative : (s.dregAt .w r).toInt < 0
  · rw [if_pos negative]
    refine ⟨_, ?_, ?_, rfl⟩
    exacts [x, iff_of_true rfl negative]
  · rw [if_neg negative, if_pos (outside.resolve_left negative)]
    refine ⟨_, ?_, ?_, rfl⟩
    exacts [x, iff_of_false nofun negative]

end

/-- Settles O31: each trap is `takeException` with its vector, whose sequence `exceptionTaken_takeException` gives. -/
theorem trapInstructions : Obligations.TrapInstructions := by
  refine ⟨fun v d s => ⟨?trap, ⟨_, rfl, exceptionTaken_takeException ..⟩,
    ⟨_, rfl, exceptionTaken_takeException ..⟩, ⟨_, rfl, exceptionTaken_takeException ..⟩,
    ?trapvTaken, ?trapvNot, ?words⟩, ?chk⟩
  case trap =>
    rw [← trap_vector]
    exact ⟨_, rfl, exceptionTaken_takeException ..⟩
  case trapvTaken =>
    intro overflow
    exact ⟨_, congrArg Host.Outcome.next (if_pos overflow), exceptionTaken_takeException ..⟩
  case trapvNot =>
    intro none
    exact congrArg Host.Outcome.next (if_neg (ne_true_of_eq_false none))
  case words =>
    exact ⟨decode_of_encode (encode_trap v), decode_of_encode rfl, decode_of_encode (encode_lineA d),
      decode_of_encode (encode_lineF d), decode_of_encode rfl⟩
  case chk =>
    intro r ea s b d
    constructor
    · intro within
      obtain ⟨f, x, runs⟩ := exec_chk_within r ea s within.1 within.2
      exact ⟨_, runs, rfl, x, memKept_readEA rfl⟩
    · intro outside
      obtain ⟨f, x, n, runs⟩ := exec_chk_outside r ea s outside
      exact ⟨_, b.2.setCcr f, runs, rfl, x, n, exceptionTaken_takeException ..⟩

end Sys2Proof.Machine
end

section
/-! A step of the CPU that is picked. `CpuStepRunsInstruction` (O50) follows. -/
namespace Sys2Proof.Machine

/-- The step of a processor that is next is its own step after the due line events (R655). -/
theorem StepsNext.step_eq {p : Role} {s : State} (h : StepsNext p s) :
    step s = processorStep p (Machine.afterLines p s) := by
  obtain ⟨on, picked, inFrame, going⟩ := h
  rw [step, Machine.turn_eq on picked, if_neg (Nat.not_le.2 inFrame), going]
  rfl

/-! ### The instruction of a CPU step -/

section
variable {s : State} (running : s.cpu.run = .running)
include running

theorem cpuStep_running : cpuStep s = cpuInstruction (beginStep s) := by
  have begun : (beginStep s).cpu.run = .running := running
  simp only [cpuStep, begun]

/-- A word with a row: its instruction runs with `pc` past the word (R650). -/
theorem cpuStep_instruction {i : Instr} (decoded : decode .cpu (fetchWordAt s.cpu.pc s) = .ok i) :
    let w := (fetch16 .cpu (beginStep s)).2
    cpuStep s = finish .cpu (cpuTail (s.cpu.sr.t && !abandoned i w)) (exec i w) := by
  have word : decode .cpu (fetch16 .cpu (beginStep s)).1 = .ok i := decoded
  rw [cpuStep_running running]
  simp only [cpuInstruction, word]
  rfl

/-- A word without a row: the illegal-instruction exception, not traced (R356, R618). -/
theorem cpuStep_noRow {e : DecodeError} (noRow : decode .cpu (fetchWordAt s.cpu.pc s) = .error e) :
    cpuStep s = .next (endStep .cpu (cpuTail false (takeIllegal (fetch16 .cpu (beginStep s)).2))) := by
  have word : decode .cpu (fetch16 .cpu (beginStep s)).1 = .error e := noRow
  rw [cpuStep_running running]
  simp only [cpuInstruction, word]
  rfl

end

/-- What is not abandoned at decode: neither line A nor line F, and privileged in supervisor mode only (R616, R618). -/
theorem abandoned_eq_false_iff (i : Instr) (s : State) : abandoned i s = false ↔
    (∀ d, i ≠ .lineA d ∧ i ≠ .lineF d) ∧ (isPrivileged i = true → s.cpu.sr.s = true) := by
  unfold abandoned
  split
  next d => exact iff_of_false nofun fun kept => (kept.1 d).1 rfl
  next d => exact iff_of_false nofun fun kept => (kept.1 d).2 rfl
  next notA notF =>
    rw [and_iff_right fun d => ⟨notA d, notF d⟩]
    cases isPrivileged i <;> simp

/-- What ends a CPU step, the trace exception due or not (R618, R650). -/
theorem cpuTail_true (s : State) : cpuTail true s =
    cpuInterruptCheck (takeException (.vector 9) (s.chargeFetched .cpu).cpu.pc (s.chargeFetched .cpu)) := rfl

theorem cpuTail_false (s : State) : cpuTail false s = cpuInterruptCheck (s.chargeFetched .cpu) := rfl

/-! ### A word without a row -/

/-- With no line active there is nothing to deliver (R620). -/
theorem cpuInterruptCheck_inactive {s : State} (h : ∀ k, s.lineActive .cpu k = false) : cpuInterruptCheck s = s := by
  have none : currentVector .cpu s = none := List.find?_eq_none.2 fun k _ => ne_true_of_eq_false (h k)
  rw [cpuInterruptCheck, none]

/-- The address of the operation word, from the `pc` past it. -/
theorem evenAddr_add_two_sub {pc : Long} (even : pc.getLsbD 0 = false) : evenAddr (pc + 2) - 2 = pc := by
  have low : pc.toNat % 2 = 0 := by
    rw [BitVec.getLsbD, Nat.testBit_zero] at even
    have := of_decide_eq_false even
    omega
  have past := evenAddr_toNat (pc + 2)
  bv_omega

/-- An entry with its frame in main RAM does not depend on the `pc` that it replaces (R614). -/
theorem takeException_withPc (k : ExcKind) (savedPc pc : Long) {s : State} (h : FrameInRam s) :
    takeException k savedPc { s with cpu := { s.cpu with pc := pc } } = takeException k savedPc s := by
  rw [takeException_pushedFrame, takeException_pushedFrame, pushedFrame_ram k savedPc h,
    pushedFrame_ram k savedPc (s := { s with cpu := { s.cpu with pc := pc } }) h]
  rfl

/-- The exception of a word without a row, in terms of the state before its fetch (R356). -/
theorem takeIllegal_fetched {s : State} (even : s.cpu.pc.getLsbD 0 = false) (ram : FrameInRam s) :
    takeIllegal (fetch16 .cpu (beginStep s)).2 =
      takeException (.vector 4) s.cpu.pc { s with fetched := [fetchWordAt s.cpu.pc s], stepCycles := 0 } := by
  have address : opaddr (fetch16 .cpu (beginStep s)).2 = s.cpu.pc := evenAddr_add_two_sub even
  rw [takeIllegal, address]
  exact takeException_withPc (.vector 4) s.cpu.pc (evenAddr (s.cpu.pc + 2))
    (s := { s with fetched := [fetchWordAt s.cpu.pc s], stepCycles := 0 }) ram

/-- Settles O50: the CPU's step in its two cases, the trace by `abandoned_eq_false_iff`. -/
theorem cpuStepRunsInstruction : Obligations.CpuStepRunsInstruction := by
  refine ⟨?instruction, ?noRow⟩
  case instruction =>
    intro s t i next running b decoded runs
    have begun : b.cpu.run = .running := (congrArg Cpu.run (afterLines_cpu ..)).trans running
    have stepped := next.step_eq.trans (cpuStep_instruction begun decoded)
    have traced := abandoned_eq_false_iff i (fetch16 .cpu (beginStep b)).2
    rw [show exec i (fetch16 .cpu (beginStep b)).2 = .next t from runs] at stepped
    refine ⟨_, stepped, _, fun due => ?_, fun undue => ?_, rfl⟩
    · rw [due.1, traced.2 due.2]
      exact cpuTail_true t
    · have quiet : (b.cpu.sr.t && !abandoned i (fetch16 .cpu (beginStep b)).2) = false := by
        rw [Bool.eq_false_iff]
        intro both
        rw [Bool.and_eq_true, Bool.not_eq_true', traced] at both
        exact undue both
      rw [quiet]
      exact cpuTail_false t
  case noRow =>
    intro s e next running b even noRow inactive ram wf
    have begun : b.cpu.run = .running := (congrArg Cpu.run (afterLines_cpu ..)).trans running
    have stepped := next.step_eq.trans (cpuStep_noRow begun noRow)
    have taken := exceptionTaken_takeException (.vector 4) b.cpu.pc
      { b with fetched := [fetchWordAt b.cpu.pc b], stepCycles := 0 }
    rw [takeIllegal_fetched even ram] at stepped
    generalize takeException (.vector 4) b.cpu.pc { b with fetched := [fetchWordAt b.cpu.pc b], stepCycles := 0 } = t
      at taken stepped
    have rest := taken.rest ram
    have tail : cpuTail false t = t.chargeFetched .cpu := by
      refine (cpuTail_false t).trans (cpuInterruptCheck_inactive fun k => ?_)
      rw [rest]
      exact inactive k
    rw [tail] at stepped
    have gpu := congrArg State.gpu rest
    have dsp := congrArg State.dsp rest
    exact ⟨_, t, stepped, taken, rfl, rfl, gpu, dsp⟩

end Sys2Proof.Machine
end

section
/-! The units' results with Z, N and C, and the logic and bit instructions. `RiscLogic` (O36) follows. -/
namespace Sys2Proof.Machine

/-! ### Results with a carry and flags alone (R400) -/

section
variable (u : Coproc) (n : Fin 32) (s : State)

/-- `R[n] <- r; SetZN(r)` and C: the register, the flags of it, nothing else (R400). -/
theorem writeZNC_effect (rc : Long × Bool) : (writeZNC u n rc s).rreg u n = rc.1 ∧
    RiscFlags u ((writeZNC u n rc s).rreg u n) rc.2 (writeZNC u n rc s) ∧
    OnlyRregFlags u n s (writeZNC u n rc s) := by
  have value : (writeZNC u n rc s).rreg u n = rc.1 := by simp [writeZNC, setZNCof]
  rw [value]
  exact ⟨rfl, riscFlags_setZNC u rc.1 _ _, onlyRregFlags_setZNC ..⟩

theorem onlyRflags_setZNC (z k c : Bool) : OnlyRflags u s (s.setZNC u z k c) := by simp [OnlyRflags]

/-- A result said by its bits, with Z and N of it and C kept. -/
theorem writeZN_bits {v : Long} {f : Nat → Bool} (bits : ∀ k, k < 32 → v.getLsbD k = f k) :
    let t := writeZN u n v s
    (∀ k, k < 32 → (t.rreg u n).getLsbD k = f k) ∧ RiscFlags u (t.rreg u n) (s.risc u).c t ∧ OnlyRregFlags u n s t := by
  intro t
  obtain ⟨value, rest⟩ := writeZN_effect u n v s
  exact ⟨value ▸ bits, rest⟩

end

/-! ### One bit by a quick number (R414 to R416) -/

theorem getLsbD_quickBit (q : BitVec 5) {k : Nat} (hk : k < 32) :
    (1#32 <<< u5 q).getLsbD k = decide (k = q.toNat) := by
  have used : q.toNat % 32 = q.toNat := Nat.mod_eq_of_lt q.isLt
  have mask := getLsbD_bitMask (n := 32) q.toNat hk
  rwa [bitMask, used] at mask

/-- BTST writes Z from the bit and keeps N and C (R414). -/
theorem execRBtst_effect (u : Coproc) (q : BitVec 5) (n : Fin 32) (s : State) :
    ∃ t, execRBtst u q n s = .next t ∧ (t.risc u).z = !(s.rreg u n).getLsbD q.toNat ∧
      (t.risc u).n = (s.risc u).n ∧ (t.risc u).c = (s.risc u).c ∧ OnlyRflags u s t := by
  refine ⟨_, rfl, ?_⟩
  rw [setZN_eq_setZNC, State.setZNC_z, State.setZNC_n, State.setZNC_c]
  exact ⟨rfl, rfl, rfl, onlyRflags_setZNC ..⟩

/-- Settles O36: each result bit by bit, written with Z and N of it. -/
theorem riscLogic : Obligations.RiscLogic := by
  intro u m n q s a b bits
  refine ⟨?and, ?or, ?xor, ?not, ?bset, ?bclr, execRBtst_effect u q n s, decodes_mn m n, decodes_mn m n,
    decodes_mn m n, decodes_rNot u q n, decodes_qn q n, decodes_qn q n, decodes_qn q n⟩
  case and => exact ⟨_, rfl, writeZN_bits u n s (bitwise_and a b)⟩
  case or => exact ⟨_, rfl, writeZN_bits u n s (bitwise_or a b)⟩
  case xor => exact ⟨_, rfl, writeZN_bits u n s (bitwise_xor a b)⟩
  case not => exact ⟨_, rfl, writeZN_bits u n s (bitwise_not a 0)⟩
  case bset =>
    refine ⟨_, rfl, writeZN_bits u n s fun k hk => ?_⟩
    rw [BitVec.getLsbD_or, getLsbD_quickBit q hk]
  case bclr =>
    refine ⟨_, rfl, writeZN_bits u n s fun k hk => ?_⟩
    rw [BitVec.getLsbD_and, BitVec.getLsbD_not, getLsbD_quickBit q hk, decide_eq_true hk, Bool.true_and]

end Sys2Proof.Machine
end

section
/-! The units' shifts and rotates as products, quotients and moved bits. `RiscShiftsRotates` (O38) follows. -/
namespace Sys2Proof.Machine

/-! ### Values by any count -/

section
variable (v : Long) (k : Nat)

theorem shiftLeft_toNat : (shiftLeft v k).toNat = v.toNat * 2 ^ k % 2 ^ 32 := by
  have same : shiftLeft v k = v <<< k := by
    unfold shiftLeft
    split
    next out => exact (BitVec.shiftLeft_eq_zero out).symm
    next => rfl
  rw [same, toNat_shiftLeft_eq]

theorem shiftRight_toNat : (shiftRight v k).toNat = v.toNat / 2 ^ k := by
  have same : shiftRight v k = v >>> k := by
    unfold shiftRight
    split
    next out => exact (BitVec.ushiftRight_eq_zero out).symm
    next => rfl
  rw [same, toNat_ushiftRight_eq]

/-- A count above 31 gives no other value than 31: every bit is the sign (R428). -/
theorem shiftArith_toInt : (shiftArith v k).toInt = v.toInt / 2 ^ k := by
  have same : shiftArith v k = v.sshiftRight k := by
    rcases Nat.le_total k 31 with within | beyond
    · rw [shiftArith, min_eq_left within]
    · rw [shiftArith, min_eq_right beyond]
      refine BitVec.eq_of_getLsbD_eq fun i hi => ?_
      rw [BitVec.getLsbD_sshiftRight, BitVec.getLsbD_sshiftRight]
      grind [BitVec.msb_eq_getLsbD_last]
  rw [same, toInt_sshiftRight_eq]

/-- The model's rotation is the library's, which moves each bit down round the end (R430). -/
theorem getLsbD_rotateRight_mod {j : Nat} (hj : j < 32) :
    (rotateRight v k).1.getLsbD j = v.getLsbD ((j + k) % 32) := by
  have rotated : (rotateRight v k).1 = v.rotateRight k := rfl
  rw [rotated, BitVec.getLsbD_rotateRight]
  rcases Nat.lt_or_ge j (32 - k % 32) with below | round
  · rw [decide_eq_true below, cond_true]
    exact congrArg v.getLsbD (by omega)
  · rw [decide_eq_false (Nat.not_lt.2 round), cond_false, decide_eq_true hj, Bool.true_and]
    exact congrArg v.getLsbD (by omega)

end

/-! ### Shifts by a register: to the left for a negative count (R425, R428) -/

section
variable {u : Coproc} {m n : Fin 32} {s : State}

theorem exec_rSh_left (h : (s.rreg u m).toInt < 0) : exec (.rSh u m n) s =
    .next (writeZNC u n (shiftLeft (s.rreg u n) (s.rreg u m).toInt.natAbs, (s.rreg u n).msb) s) := if_pos h

theorem exec_rSh_right (h : ¬ (s.rreg u m).toInt < 0) : exec (.rSh u m n) s =
    .next (writeZNC u n (shiftRight (s.rreg u n) (s.rreg u m).toInt.natAbs, (s.rreg u n).getLsbD 0) s) := if_neg h

theorem exec_rSha_left (h : (s.rreg u m).toInt < 0) : exec (.rSha u m n) s =
    .next (writeZNC u n (shiftLeft (s.rreg u n) (s.rreg u m).toInt.natAbs, (s.rreg u n).msb) s) := if_pos h

theorem exec_rSha_right (h : ¬ (s.rreg u m).toInt < 0) : exec (.rSha u m n) s =
    .next (writeZNC u n (shiftArith (s.rreg u n) (s.rreg u m).toInt.natAbs, (s.rreg u n).getLsbD 0) s) := if_neg h

end

/-- A rotation written with its flags, by a count that agrees with `k` modulo 32. -/
theorem writeZNC_rotateRight (u : Coproc) (n : Fin 32) (s : State) {count k : Nat} (same : count % 32 = k % 32) :
    let v := s.rreg u n
    let t := writeZNC u n (rotateRight v count) s
    (∀ j, j < 32 → (t.rreg u n).getLsbD j = v.getLsbD ((j + k) % 32)) ∧ RiscFlags u (t.rreg u n) v.msb t ∧
      OnlyRregFlags u n s t := by
  intro v t
  obtain ⟨value, rest⟩ := writeZNC_effect u n s (rotateRight v count)
  refine ⟨fun j hj => ?_, rest⟩
  rw [value, getLsbD_rotateRight_mod v count hj, Nat.add_mod, same, ← Nat.add_mod]

/-- Settles O38: each shift is a product or a quotient of the value, by the side its count's sign picks. -/
theorem riscShiftsRotates : Obligations.RiscShiftsRotates := by
  refine ⟨fun u m n q s => ?shifts, fun u m n q s => ⟨⟨_, rfl, ?ror⟩, ⟨_, rfl, ?rorq⟩⟩, fun u m n q => ?words⟩
  case shifts =>
    intro v k q32 flags
    have written := writeZNC_effect u n s
    refine ⟨?sh, ?sha, ?shlq, ?shrq, ?sharq⟩
    case sh =>
      by_cases left : k < 0
      · obtain ⟨value, rest⟩ := written (shiftLeft v k.natAbs, v.msb)
        rw [if_pos left, if_pos left]
        exact ⟨_, exec_rSh_left left, rest, (congrArg _ value).trans (shiftLeft_toNat ..)⟩
      · obtain ⟨value, rest⟩ := written (shiftRight v k.natAbs, v.getLsbD 0)
        rw [if_neg left, if_neg left]
        exact ⟨_, exec_rSh_right left, rest, (congrArg _ value).trans (shiftRight_toNat ..)⟩
    case sha =>
      by_cases left : k < 0
      · obtain ⟨value, rest⟩ := written (shiftLeft v k.natAbs, v.msb)
        rw [if_pos left]
        exact ⟨_, exec_rSha_left left, rest, fun _ => (congrArg _ value).trans (shiftLeft_toNat ..),
          fun right => absurd left (not_lt.2 right)⟩
      · obtain ⟨value, rest⟩ := written (shiftArith v k.natAbs, v.getLsbD 0)
        rw [if_neg left]
        exact ⟨_, exec_rSha_right left, rest, fun h => absurd h left,
          fun _ => (congrArg _ value).trans (shiftArith_toInt ..)⟩
    case shlq =>
      obtain ⟨value, rest⟩ := written (shiftLeft v (shlCount q), v.msb)
      exact ⟨_, rfl, rest, (congrArg _ value).trans (shiftLeft_toNat ..)⟩
    case shrq =>
      obtain ⟨value, rest⟩ := written (shiftRight v q32, v.getLsbD 0)
      exact ⟨_, rfl, rest, (congrArg _ value).trans (shiftRight_toNat ..)⟩
    case sharq =>
      obtain ⟨value, rest⟩ := written (shiftArith v q32, v.getLsbD 0)
      exact ⟨_, rfl, rest, (congrArg _ value).trans (shiftArith_toInt ..)⟩
  case ror => exact writeZNC_rotateRight u n s (Nat.mod_mod ..)
  case rorq =>
    refine writeZNC_rotateRight u n s ?_
    unfold q32
    split
    next zero => rw [zero]; rfl
    next => rfl
  case words =>
    exact ⟨decodes_mn m n, decodes_qn q n, decodes_qn q n, decodes_mn m n, decodes_qn q n, decodes_mn m n,
      decodes_qn q n⟩

end Sys2Proof.Machine
end

section
/-! The units' sums, differences and comparisons. `RiscAddSubCompare` (O39) follows. -/
namespace Sys2Proof.Machine

/-! ### Quick operands (R201) -/

theorem q32Long_toNat (q : BitVec 5) : (q32Long q).toNat = if q = 0 then 32 else q.toNat := by
  have bound := q.isLt
  refine (BitVec.toNat_ofNat ..).trans (Nat.mod_eq_of_lt ?_)
  unfold q32
  split <;> omega

theorem s5_toNat (q : BitVec 5) : (s5 q).toNat = if q.toNat < 16 then q.toNat else 2 ^ 32 - 32 + q.toNat := by
  have low : (q.setWidth 32).toNat = q.toNat := BitVec.toNat_setWidth_of_le (by decide)
  rw [s5, BitVec.toNat_signExtend, low, BitVec.msb_eq_decide]
  rcases Nat.lt_or_ge q.toNat 16 with positive | negative
  · rw [decide_eq_false (Nat.not_le.2 positive), if_pos positive]
    rfl
  · rw [decide_eq_true negative, if_neg (Nat.not_lt.2 negative)]
    exact Nat.add_comm ..

/-! ### Sums and differences (R400) -/

theorem riscAdd_toNat (a b : Long) (c : Bool) : (riscAdd a b c).1.toNat = (a.toNat + b.toNat + c.toNat) % 2 ^ 32 :=
  BitVec.toNat_ofNat ..

theorem riscSub_toNat (a b : Long) (c : Bool) :
    ((riscSub a b c).1.toNat : Int) = ((a.toNat : Int) - (b.toNat + c.toNat : Nat)) % 2 ^ 32 := by
  have value : (riscSub a b c).1.toNat = (((a.toNat : Int) - b.toNat - c.toNat) % 2 ^ 32).toNat := BitVec.toNat_ofInt ..
  rw [value, Int.toNat_of_nonneg (Int.emod_nonneg _ (by decide)), Nat.cast_add, Int.sub_sub]

theorem riscSub_borrow (a b : Long) (c : Bool) : (riscSub a b c).2 = decide (a.toNat < b.toNat + c.toNat) := by
  simp only [riscSub, decide_eq_decide]
  omega

section
variable (u : Coproc) (n : Fin 32) (s : State)

/-- A sum written with its flags, by the natural numbers of its operands. -/
theorem writeZNC_riscAdd (a b : Long) (c : Bool) :
    let t := writeZNC u n (riscAdd a b c) s
    (t.rreg u n).toNat = (a.toNat + b.toNat + c.toNat) % 2 ^ 32 ∧
      RiscFlags u (t.rreg u n) (decide (2 ^ 32 ≤ a.toNat + b.toNat + c.toNat)) t ∧ OnlyRregFlags u n s t := by
  intro t
  obtain ⟨value, rest⟩ := writeZNC_effect u n s (riscAdd a b c)
  exact ⟨value ▸ riscAdd_toNat a b c, rest⟩

/-- A difference written with its flags, the borrow in C. -/
theorem writeZNC_riscSub (a b : Long) (c : Bool) :
    let t := writeZNC u n (riscSub a b c) s
    ((t.rreg u n).toNat : Int) = ((a.toNat : Int) - (b.toNat + c.toNat : Nat)) % 2 ^ 32 ∧
      RiscFlags u (t.rreg u n) (decide (a.toNat < b.toNat + c.toNat)) t ∧ OnlyRregFlags u n s t := by
  intro t
  obtain ⟨value, rest⟩ := writeZNC_effect u n s (riscSub a b c)
  rw [riscSub_borrow] at rest
  exact ⟨value ▸ riscSub_toNat a b c, rest⟩

/-- The flags of a difference without a write: Z says the operands are equal (R432). -/
theorem setZNCof_riscSub (a b : Long) :
    let t := setZNCof u (riscSub a b false) s
    ((t.risc u).z = true ↔ a.toNat = b.toNat) ∧
      ((t.risc u).n = true ↔ 2 ^ 31 ≤ (((a.toNat : Int) - b.toNat) % 2 ^ 32)) ∧
      ((t.risc u).c = true ↔ a.toNat < b.toNat) ∧ OnlyRflags u s t := by
  intro t
  obtain ⟨zero, negative, borrow⟩ : RiscFlags u (riscSub a b false).1 (riscSub a b false).2 t :=
    riscFlags_setZNC u _ s _
  have value : ((riscSub a b false).1.toNat : Int) = ((a.toNat : Int) - b.toNat) % 2 ^ 32 := riscSub_toNat a b false
  have ha := a.isLt
  have hb := b.isLt
  refine ⟨zero.trans ?_, negative.trans ?_, ?_, onlyRflags_setZNC ..⟩
  · omega
  · omega
  · rw [borrow, riscSub_borrow, decide_eq_true_iff]
    rfl

end

/-- Settles O39: each form writes a sum or a difference of two longs, with the flags of it or none. -/
theorem riscAddSubCompare : Obligations.RiscAddSubCompare := by
  refine ⟨fun u m n q s => ?results, fun u m n q s => ⟨⟨_, rfl, ?cmp⟩, ⟨_, rfl, ?cmpq⟩⟩, fun u m n q => ?words⟩
  case results =>
    intro a b c k sum difference
    have quick : (q32Long q).toNat = k := q32Long_toNat q
    refine ⟨⟨_, rfl, ?add⟩, ⟨_, rfl, ?addc⟩, ⟨_, rfl, ?addq⟩, ⟨_, rfl, ?addqt, onlyRreg_setRreg ..⟩, ⟨_, rfl, ?sub⟩,
      ⟨_, rfl, ?subc⟩, ⟨_, rfl, ?subq⟩, ⟨_, rfl, ?subqt, onlyRreg_setRreg ..⟩, ⟨_, rfl, ?neg⟩⟩
    case add => exact writeZNC_riscAdd u n s (s.rreg u n) (s.rreg u m) false
    case addc => exact writeZNC_riscAdd u n s (s.rreg u n) (s.rreg u m) (s.risc u).c
    case addq => exact quick ▸ writeZNC_riscAdd u n s (s.rreg u n) (q32Long q) false
    case addqt => rw [State.rreg_setRreg_self, BitVec.toNat_add, quick]
    case sub => exact writeZNC_riscSub u n s (s.rreg u n) (s.rreg u m) false
    case subc => exact writeZNC_riscSub u n s (s.rreg u n) (s.rreg u m) (s.risc u).c
    case subq => exact quick ▸ writeZNC_riscSub u n s (s.rreg u n) (q32Long q) false
    case subqt =>
      have ha := (s.rreg u n).isLt
      have hk := (q32Long q).isLt
      rw [State.rreg_setRreg_self, BitVec.toNat_sub, quick]
      omega
    case neg => exact writeZNC_riscSub u n s 0 (s.rreg u n) false
  case cmp => exact setZNCof_riscSub u s (s.rreg u n) (s.rreg u m)
  case cmpq => exact s5_toNat q ▸ setZNCof_riscSub u s (s.rreg u n) (s5 q)
  case words =>
    exact ⟨decodes_mn m n, decodes_mn m n, decodes_qn q n, decodes_qn q n, decodes_mn m n, decodes_mn m n,
      decodes_qn q n, decodes_qn q n, decodes_rNeg u q n, decodes_mn m n, decodes_qn q n⟩

end Sys2Proof.Machine
end

section
/-! The units' register moves. `RiscMoves` (O40) follows. -/
namespace Sys2Proof.Machine

/-! ### The registers of both banks (R30) -/

section
variable (u : Coproc) (n : Fin 32) (v : Long) (s : State)

theorem setRreg_effect : (s.setRreg u n v).rreg u n = v ∧ OnlyRreg u n s (s.setRreg u n v) :=
  ⟨State.rreg_setRreg_self .., onlyRreg_setRreg ..⟩

@[simp] theorem State.altReg_setAltReg_self : (s.setAltReg u n v).altReg u n = v := by
  rw [State.altReg_setAltReg, if_pos rfl]

end

/-! ### Two words of an instruction (R108, R202) -/

theorem fetch16_risc_mem (u : Coproc) (s : State) : (fetch16 (.risc u) s).2.mem = s.mem := by
  cases u <;> rfl

theorem fetch16_risc_pc_toNat (u : Coproc) (s : State) :
    ((fetch16 (.risc u) s).2.risc u).pc.toNat = ((s.risc u).pc.toNat / 2 * 2 + 2) % 2 ^ 32 := by
  have added : ((s.risc u).pc + 2).toNat = ((s.risc u).pc.toNat + 2) % 2 ^ 32 := BitVec.toNat_add ..
  rw [fetch16_risc_pc, evenAddr_toNat, added]
  omega

/-- Settles O40: each move is one register write; MOVEI's comes after the fetch of its two words. -/
theorem riscMoves : Obligations.RiscMoves := by
  intro u m n q s lo hi
  refine ⟨⟨_, rfl, setRreg_effect ..⟩, ⟨_, rfl, ?moveq, onlyRreg_setRreg ..⟩, ⟨_, rfl, ?moveta⟩,
    ⟨_, rfl, State.rreg_setRreg_self .., onlyRreg_setRreg .., fun k => State.altReg_setRreg ..⟩,
    ⟨_, rfl, ?movei, onlyRreg_setRreg .., ?memory, ?past⟩, ⟨_, rfl, ?movePc, onlyRreg_setRreg ..⟩, rfl, rfl⟩
  case moveq =>
    have small : q.toNat < 2 ^ 32 := q.isLt.trans (by decide)
    rw [State.rreg_setRreg_self]
    exact (BitVec.toNat_ofNat ..).trans (Nat.mod_eq_of_lt small)
  case moveta =>
    rw [State.altReg_setAltReg_self]
    exact ⟨rfl, rfl, fun k => State.rreg_setAltReg ..⟩
  case movei =>
    rw [State.rreg_setRreg_self]
    exact toNat_append_eq hi.1 lo.1
  case memory => exact (fetch16_risc_mem u lo.2).trans (fetch16_risc_mem u s)
  case past =>
    have low : (lo.2.risc u).pc.toNat = ((s.risc u).pc.toNat / 2 * 2 + 2) % 2 ^ 32 := fetch16_risc_pc_toNat u s
    have high : (hi.2.risc u).pc.toNat = ((lo.2.risc u).pc.toNat / 2 * 2 + 2) % 2 ^ 32 := fetch16_risc_pc_toNat u lo.2
    omega
  case movePc =>
    rw [State.rreg_setRreg_self]
    exact (BitVec.toNat_add ..).symm.trans (congrArg BitVec.toNat (BitVec.sub_add_cancel ..))

end Sys2Proof.Machine
end

section
/-! The units' loads. `RiscLoads` (O41) follows. -/
namespace Sys2Proof.Machine

@[simp] theorem State.setRreg_hidata (u : Coproc) (n : Fin 32) (v : Long) (s : State) :
    (s.setRreg u n v).gpu.hidata = s.gpu.hidata := by
  unfold State.setRreg
  split <;> cases u <;> rfl

section
variable {u : Coproc} {s : State}

theorem and_mask_toNat {mask : Long} {k : Nat} (ones : mask.toNat = 2 ^ k - 1) (v : Long) :
    (v &&& mask).toNat = v.toNat % 2 ^ k := by
  rw [BitVec.toNat_and, ones, Nat.and_two_pow_sub_one_eq_mod]

/-- `LoadNarrow(a, n)` into a register: in local memory the low part of the aligned long, elsewhere the access at its
own width, zero-extended (R457). -/
theorem narrowLoad_effect (hd : s.defaultDevices) (n : Fin 32) (a : Long) (sz : Size) {mask : Long} {k : Nat}
    (ones : mask.toNat = 2 ^ k - 1) {v : Long × State}
    (narrow : v = if inLocal u a then ((memRead (.risc u) .l a s).1 &&& mask, (memRead (.risc u) .l a s).2)
      else ((memRead (.risc u) sz a s).1.setWidth 32, (memRead (.risc u) sz a s).2)) :
    ((v.2.setRreg u n v.1).rreg u n).toNat = (if inLocal u a then (memRead (.risc u) .l a s).1.toNat % 2 ^ k
      else (memRead (.risc u) sz a s).1.toNat) ∧ OnlyRreg u n s (v.2.setRreg u n v.1) := by
  have state : v.2 = s := by
    rw [narrow]
    split <;> exact memRead_state _ _ a s hd
  rw [state, State.rreg_setRreg_self]
  refine ⟨?_, onlyRreg_setRreg ..⟩
  rw [narrow]
  split
  · exact and_mask_toNat ones _
  · exact BitVec.toNat_setWidth_of_le (by cases sz <;> decide)

/-- A long load in one equation: its read changes no state. -/
theorem riscLoad_eq (hd : s.defaultDevices) (a : Long) (n : Fin 32) :
    riscLoad u a n s = s.setRreg u n (memRead (.risc u) .l a s).1 :=
  congrArg (State.setRreg · u n _) (memRead_state (.risc u) .l a s hd)

theorem riscLoad_effect (hd : s.defaultDevices) (a : Long) (n : Fin 32) :
    (riscLoad u a n s).rreg u n = (memRead (.risc u) .l a s).1 ∧ OnlyRreg u n s (riscLoad u a n s) := by
  rw [riscLoad_eq hd]
  exact setRreg_effect ..

/-- LOADP: HIDATA gets the long at the lower address before the long above it is read (R462). -/
theorem execGLoadp_effect (hd : s.defaultDevices) (m n : Fin 32) :
    let a := s.rreg .gpu m
    let w := s.setHidata (memRead (.risc .gpu) .l a s).1
    ∃ t, execGLoadp m n s = .next t ∧ t.gpu.hidata = (memRead (.risc .gpu) .l a s).1 ∧
      t.rreg .gpu n = (memRead (.risc .gpu) .l (a + 4) w).1 ∧ OnlyRreg .gpu n w t := by
  intro a w
  have exec_eq : execGLoadp m n s = .next (riscLoad .gpu (a + 4) n w) :=
    congrArg (fun x : State => Host.Outcome.next (riscLoad .gpu (a + 4) n (x.setHidata _)))
      (memRead_state (.risc .gpu) .l a s hd)
  have hw : w.defaultDevices := hd
  refine ⟨_, exec_eq, ?_, riscLoad_effect hw (a + 4) n⟩
  rw [riscLoad_eq hw, State.setRreg_hidata]
  rfl

end

/-- Settles O41: each load is a register write of what a read answers. -/
theorem riscLoads : Obligations.RiscLoads := by
  intro u m n q s hd a k long loads
  have loaded (x : Long) : loads (long x).toNat (riscLoad u x n s) := by
    obtain ⟨value, only⟩ := riscLoad_effect (u := u) hd x n
    exact ⟨congrArg BitVec.toNat value, only⟩
  refine ⟨⟨_, rfl, narrowLoad_effect hd n a .b (mask := 0xFF) (k := 8) rfl rfl⟩,
    ⟨_, rfl, narrowLoad_effect hd n a .w (mask := 0xFFFF) (k := 16) rfl rfl⟩, ⟨_, rfl, loaded _⟩, ⟨_, rfl, loaded _⟩,
    ⟨_, rfl, loaded _⟩, ⟨_, rfl, loaded _⟩, ⟨_, rfl, loaded _⟩, ?loadp⟩
  case loadp =>
    rintro rfl
    exact execGLoadp_effect hd m n

end Sys2Proof.Machine
end

section
/-! The units' stores. `RiscStores` (O42) follows. -/
namespace Sys2Proof.Machine

/-- A write keeps every byte outside its access, whoever asks (R107). -/
theorem memKept_access (p : Role) (sz : Size) (a : Long) (v : BitVec sz.bits) (s : State) :
    MemKept (accessBytes p sz a) s (memWrite p sz a v s) := fun wf hd => (memWrite_outside p sz a v hd wf).1

theorem memKept_two_accesses (p : Role) (sz : Size) (a b : Long) (v w : BitVec sz.bits) (s : State) :
    MemKept (accessBytes p sz a ++ accessBytes p sz b) s (memWrite p sz b w (memWrite p sz a v s)) := by
  intro wf hd x outside
  obtain ⟨notFirst, notSecond⟩ := not_or.1 (mt List.mem_append.2 outside)
  obtain ⟨first, wf', hd'⟩ := memWrite_outside p sz a v hd wf
  obtain ⟨second, -, -⟩ := memWrite_outside p sz b w hd' wf'
  exact (second x notSecond).trans (first x notFirst)

/-- `StoreNarrow(a, n, v)`: in local memory a whole long with zeros above the low part, elsewhere the access at its own
width (R457). -/
theorem narrowStore_effect (u : Coproc) (a v : Long) (s : State) (sz : Size) {mask : Long} {k : Nat}
    (ones : mask.toNat = 2 ^ k - 1) {t : State}
    (narrow : t = if inLocal u a then memWrite (.risc u) .l a (v &&& mask) s
      else memWrite (.risc u) sz a (v.setWidth sz.bits) s) :
    (inLocal u a = true → t = memWrite (.risc u) .l a (BitVec.ofNat 32 (v.toNat % 2 ^ k)) s ∧
      MemKept (accessBytes (.risc u) .l a) s t) ∧
    (inLocal u a = false → t = memWrite (.risc u) sz a (v.setWidth sz.bits) s ∧
      MemKept (accessBytes (.risc u) sz a) s t) := by
  have low : BitVec.ofNat 32 (v.toNat % 2 ^ k) = v &&& mask := by
    rw [← and_mask_toNat ones, BitVec.ofNat_toNat, BitVec.setWidth_eq]
  refine ⟨fun inside => ?_, fun outside => ?_⟩
  · rw [narrow, if_pos inside, low]
    exact ⟨rfl, memKept_access (.risc u) .l a (v &&& mask) s⟩
  · rw [narrow, if_neg (Bool.eq_false_iff.1 outside)]
    exact ⟨rfl, memKept_access (.risc u) sz a (v.setWidth sz.bits) s⟩

/-- Settles O42: each store is a write at its address, of the bytes of that access. -/
theorem riscStores : Obligations.RiscStores := by
  intro u m n q s a v k p stores
  have stored (x : Long) : stores x (memWrite p .l x v s) := ⟨rfl, memKept_access p .l x v s⟩
  refine ⟨⟨_, rfl, narrowStore_effect u a v s .b (mask := 0xFF) (k := 8) rfl rfl⟩,
    ⟨_, rfl, narrowStore_effect u a v s .w (mask := 0xFFFF) (k := 16) rfl rfl⟩, ⟨_, rfl, stored _⟩, ⟨_, rfl, stored _⟩,
    ⟨_, rfl, stored _⟩, ⟨_, rfl, stored _⟩, ⟨_, rfl, stored _⟩, ?storep⟩
  case storep =>
    rintro rfl
    exact ⟨_, rfl, rfl, memKept_two_accesses p .l a (a + 4) s.gpu.hidata v s⟩

end Sys2Proof.Machine
end

section
/-! The units' saturations, moves of bits, steps in a circular buffer and the normalisation count. `RiscSpecials` (O44)
follows. -/
namespace Sys2Proof.Machine

/-! ### Saturations (R500 to R502, R510, R515) -/

/-- A signed value brought between two longs. -/
theorem clamp_toInt {low high : Long} {a b : Int} (hlow : low.toInt = a) (hhigh : high.toInt = b) (ordered : a ≤ b)
    (v : Long) : (if v.toInt < a then low else if b < v.toInt then high else v).toInt = max a (min v.toInt b) := by
  split
  next below => omega
  next =>
    split
    next above => omega
    next within => omega

theorem saturate_toInt {bound : Nat} (small : bound < 2 ^ 31) (v : Long) :
    (saturate bound v).toInt = max 0 (min v.toInt bound) := by
  refine clamp_toInt (low := 0) (a := 0) rfl ?_ (Int.natCast_nonneg bound) v
  rw [← BitVec.ofInt_natCast]
  exact BitVec.toInt_ofInt_eq_self (by decide) (by omega) (by omega)

theorem sat16s_toInt (v : Long) :
    (if v.toInt < -32768 then (0xFFFF8000 : Long) else if 32767 < v.toInt then 0x00007FFF else v).toInt =
      max (-32768) (min v.toInt 32767) :=
  clamp_toInt (a := -32768) (b := 32767) rfl rfl (by decide) v

/-- A result said by its signed value, with Z and N of it and C kept. -/
theorem writeZN_toInt (u : Coproc) (n : Fin 32) (s : State) {v : Long} {x : Int} (signed : v.toInt = x) :
    let t := writeZN u n v s
    (t.rreg u n).toInt = x ∧ RiscFlags u (t.rreg u n) (s.risc u).c t ∧ OnlyRregFlags u n s t := by
  intro t
  obtain ⟨value, rest⟩ := writeZN_effect u n v s
  exact ⟨value ▸ signed, rest⟩

/-! ### Fields cut out by a mask (R503, R504, R506) -/

section
variable {v mask : Long} {w k : Nat}

theorem and_field_toNat (field : mask.toNat = (2 ^ w - 1) * 2 ^ k) (v : Long) :
    (v &&& mask).toNat = v.toNat / 2 ^ k % 2 ^ w * 2 ^ k := by
  rw [BitVec.toNat_and, field, ← Nat.shiftRight_eq_div_pow]
  refine Nat.eq_of_testBit_eq fun i => ?_
  rw [Nat.testBit_and, Nat.testBit_mul_two_pow, Nat.testBit_mul_two_pow, Nat.testBit_two_pow_sub_one,
    Nat.testBit_mod_two_pow, Nat.testBit_shiftRight]
  rcases Nat.lt_or_ge i k with below | within
  · simp [Nat.not_le.2 below]
  · rw [Nat.add_sub_cancel' within, Bool.and_left_comm, Bool.and_comm (v.toNat.testBit i)]

/-- A mask of the bits from `k` up finds none exactly in a value below `2^k`. -/
theorem and_high_eq_zero_iff (field : mask.toNat = (2 ^ w - 1) * 2 ^ k) (whole : w + k = 32) :
    v &&& mask = 0 ↔ v.toNat < 2 ^ k := by
  have fits : v.toNat / 2 ^ k < 2 ^ w := by
    refine Nat.div_lt_of_lt_mul ?_
    rw [← Nat.pow_add, Nat.add_comm, whole]
    exact v.isLt
  have zero : (0 : Long).toNat = 0 := rfl
  rw [← BitVec.toNat_inj, and_field_toNat field, Nat.mod_eq_of_lt fits, zero, Nat.mul_eq_zero,
    or_iff_left (Nat.two_pow_pos k).ne', Nat.div_eq_zero_iff_lt (Nat.two_pow_pos k)]

end

/-- Three fields in disjoint places add up. -/
theorem three_fields_or {i j b c : Nat} (hc : c < 2 ^ j) (hb : b * 2 ^ j + c < 2 ^ i) (a : Nat) :
    a * 2 ^ i ||| b * 2 ^ j ||| c = a * 2 ^ i + b * 2 ^ j + c := by
  rw [Nat.or_assoc, ← Nat.shiftLeft_eq b, ← Nat.shiftLeft_add_eq_or_of_lt hc, Nat.shiftLeft_eq, ← Nat.shiftLeft_eq a,
    ← Nat.shiftLeft_add_eq_or_of_lt hb, Nat.shiftLeft_eq, Nat.add_assoc]

theorem pack_toNat (v : Long) :
    (pack v).toNat = v.toNat / 2 ^ 22 % 16 * 2 ^ 12 + v.toNat / 2 ^ 13 % 16 * 2 ^ 8 + v.toNat % 256 := by
  have high : (v >>> 10 &&& 0xF000).toNat = v.toNat / 2 ^ 22 % 16 * 2 ^ 12 := by
    rw [and_field_toNat (w := 4) (k := 12) rfl, toNat_ushiftRight_eq, Nat.div_div_eq_div_mul]
    rfl
  have middle : (v >>> 5 &&& 0x0F00).toNat = v.toNat / 2 ^ 13 % 16 * 2 ^ 8 := by
    rw [and_field_toNat (w := 4) (k := 8) rfl, toNat_ushiftRight_eq, Nat.div_div_eq_div_mul]
    rfl
  have low : (v &&& 0xFF).toNat = v.toNat % 256 := and_mask_toNat (k := 8) rfl v
  have parts : (pack v).toNat =
      (v >>> 10 &&& 0xF000).toNat ||| (v >>> 5 &&& 0x0F00).toNat ||| (v &&& 0xFF).toNat := rfl
  rw [parts, high, middle, low]
  exact three_fields_or (by omega) (by omega) _

theorem unpack_toNat (v : Long) :
    (unpack v).toNat = v.toNat / 2 ^ 12 % 16 * 2 ^ 22 + v.toNat / 2 ^ 8 % 16 * 2 ^ 13 + v.toNat % 256 := by
  have high : ((v &&& 0xF000) <<< 10).toNat = v.toNat / 2 ^ 12 % 16 * 2 ^ 22 := by
    rw [toNat_shiftLeft_eq, and_field_toNat (w := 4) (k := 12) rfl]
    omega
  have middle : ((v &&& 0x0F00) <<< 5).toNat = v.toNat / 2 ^ 8 % 16 * 2 ^ 13 := by
    rw [toNat_shiftLeft_eq, and_field_toNat (w := 4) (k := 8) rfl]
    omega
  have low : (v &&& 0xFF).toNat = v.toNat % 256 := and_mask_toNat (k := 8) rfl v
  rw [unpack, BitVec.toNat_or, BitVec.toNat_or, high, middle, low]
  exact three_fields_or (by omega) (by omega) _

/-- MTOI keeps the mantissa and fills the bits above it with the sign (R506). -/
theorem getLsbD_mantissa (x : Long) {k : Nat} (hk : k < 32) :
    ((x.sshiftRight 8 &&& 0xFF800000) ||| (x &&& 0x007FFFFF)).getLsbD k =
      if k < 23 then x.getLsbD k else x.getLsbD (min (k + 8) 31) := by
  have highMask : ∀ j, j < 32 → (0xFF800000 : Long).getLsbD j = decide (23 ≤ j) := by decide
  have lowMask : ∀ j, j < 32 → (0x007FFFFF : Long).getLsbD j = decide (j < 23) := by decide
  rw [BitVec.getLsbD_or, BitVec.getLsbD_and, BitVec.getLsbD_and, highMask k hk, lowMask k hk]
  rcases Nat.lt_or_ge k 23 with mantissa | above
  · simp [mantissa]
  · have sign : (x.sshiftRight 8).getLsbD k = x.getLsbD 31 := by
      rw [BitVec.getLsbD_sshiftRight, BitVec.msb_eq_getLsbD_last]
      grind
    rw [sign, min_eq_right (by omega), if_neg (Nat.not_lt.2 above)]
    simp [above]

theorem getLsbD_mirror (v : Long) {k : Nat} (hk : k < 32) : v.reverse.getLsbD k = v.getLsbD (31 - k) := by
  rw [BitVec.getLsbD_reverse, BitVec.getMsbD_eq_getLsbD, decide_eq_true hk, Bool.true_and]

/-! ### Steps in a circular buffer (R516, R517) -/

theorem riscSub_eq (a b : Long) :
    riscSub a b false = (BitVec.ofInt 32 ((a.toNat : Int) - b.toNat), decide (a.toNat < b.toNat)) :=
  Prod.ext (congrArg (BitVec.ofInt 32) (Int.sub_zero _)) (riscSub_borrow a b false)

/-- The merged value bit by bit, Z and N of it, and C as given. -/
theorem modMerge_effect (n : Fin 32) (e : Long) (c : Bool) (s : State) :
    let t := modMerge n (e, c) s
    (∀ j, j < 32 → (t.rreg .dsp n).getLsbD j =
      if s.dsp.modulo.getLsbD j then (s.rreg .dsp n).getLsbD j else e.getLsbD j) ∧
    RiscFlags .dsp (t.rreg .dsp n) c t ∧ OnlyRregFlags .dsp n s t := by
  intro t
  obtain ⟨value, rest⟩ :=
    writeZNC_effect .dsp n s ((e &&& ~~~s.dsp.modulo) ||| (s.rreg .dsp n &&& s.dsp.modulo), c)
  refine ⟨fun j hj => ?_, rest⟩
  have merged : (t.rreg .dsp n).getLsbD j =
      ((e &&& ~~~s.dsp.modulo) ||| (s.rreg .dsp n &&& s.dsp.modulo)).getLsbD j := congrArg (BitVec.getLsbD · j) value
  rw [merged, BitVec.getLsbD_or, BitVec.getLsbD_and, BitVec.getLsbD_and, BitVec.getLsbD_not, decide_eq_true hj]
  cases s.dsp.modulo.getLsbD j <;> simp

/-! ### The normalisation count (R507)

Each turn of a loop moves the leading one by a place and the count against it, so their sum stays; the loops end with
the leading one at bit 22. -/

/-- The place of the leading one of a value that is not zero. -/
def leadingOne (v : Long) : Nat := Nat.log 2 v.toNat

theorem toNat_ne_zero {v : Long} (h : v ≠ 0) : v.toNat ≠ 0 := fun e => h (BitVec.eq_of_toNat_eq e)

theorem leadingOne_lt_iff {v : Long} (h : v ≠ 0) (k : Nat) : leadingOne v < k ↔ v.toNat < 2 ^ k :=
  Nat.log_lt_iff_lt_pow one_lt_two (toNat_ne_zero h)

theorem leadingOne_lt (v : Long) : leadingOne v < 32 := Nat.log_lt_of_lt_pow' (by decide) v.isLt

theorem leadingOne_shiftLeft_one {v : Long} (h : v ≠ 0) (room : v.toNat < 2 ^ 31) :
    v <<< 1 ≠ 0 ∧ leadingOne (v <<< 1) = leadingOne v + 1 := by
  have doubled : (v <<< 1).toNat = v.toNat * 2 := by
    rw [toNat_shiftLeft_eq]
    omega
  refine ⟨fun e => ?_, ?_⟩
  · have zero : (v <<< 1).toNat = 0 := congrArg BitVec.toNat e
    have := toNat_ne_zero h
    omega
  · rw [leadingOne, doubled]
    exact Nat.log_mul_base one_lt_two (toNat_ne_zero h)

theorem leadingOne_shiftRight_one (v : Long) : leadingOne (v >>> 1) = leadingOne v - 1 := by
  rw [leadingOne, toNat_ushiftRight_eq, pow_one]
  exact Nat.log_div_base 2 v.toNat

theorem normiUp_spec (fuel : Nat) {v : Long} (r : Int) (h : v ≠ 0) (enough : 22 ≤ leadingOne v + fuel) :
    let t := normiUp fuel v r
    t.1 ≠ 0 ∧ 22 ≤ leadingOne t.1 ∧ t.2 + leadingOne t.1 = r + leadingOne v := by
  induction fuel generalizing v r with
  | zero => exact ⟨h, enough, rfl⟩
  | succ fuel ih =>
    unfold normiUp
    split
    next empty =>
      have below : v.toNat < 2 ^ 22 := (and_high_eq_zero_iff (w := 10) rfl rfl).1 empty
      obtain ⟨nonzero, moved⟩ := leadingOne_shiftLeft_one h (below.trans (by decide))
      obtain ⟨final, reached, kept⟩ := ih (r - 1) nonzero (by omega)
      exact ⟨final, reached, by omega⟩
    next found =>
      have reached : ¬ leadingOne v < 22 := fun below =>
        found ((and_high_eq_zero_iff (w := 10) rfl rfl).2 ((leadingOne_lt_iff h 22).1 below))
      exact ⟨h, Nat.not_lt.1 reached, rfl⟩

theorem normiDown_spec (fuel : Nat) {v : Long} (r : Int) (h : v ≠ 0) (above : 22 ≤ leadingOne v)
    (enough : leadingOne v ≤ 22 + fuel) : normiDown fuel v r = r + leadingOne v - 22 := by
  induction fuel generalizing v r with
  | zero =>
    unfold normiDown
    omega
  | succ fuel ih =>
    unfold normiDown
    have done : v &&& 0xFF800000 = 0 ↔ leadingOne v < 23 :=
      (and_high_eq_zero_iff (w := 9) rfl rfl).trans (leadingOne_lt_iff h 23).symm
    split
    next empty =>
      have := done.1 empty
      omega
    next found =>
      have beyond := mt done.2 found
      have moved := leadingOne_shiftRight_one v
      have nonzero : v >>> 1 ≠ 0 := fun e => by
        have zero : leadingOne (v >>> 1) = 0 := by rw [e]; rfl
        omega
      rw [ih (r + 1) nonzero (by omega) (by omega)]
      omega

theorem normiCount_eq {v : Long} (h : v ≠ 0) : normiCount v = leadingOne v - 22 := by
  obtain ⟨nonzero, reached, kept⟩ := normiUp_spec 32 0 h (by omega)
  have bound := leadingOne_lt (normiUp 32 v 0).1
  rw [normiCount, if_neg h]
  refine (normiDown_spec 32 _ nonzero reached (by omega)).trans ?_
  omega

/-- The written count is the one that brings the leading one to bit 22. -/
theorem execRNormi_effect (u : Coproc) (m n : Fin 32) (s : State) :
    let v := (s.rreg u m).toNat
    ∃ t, execRNormi u m n s = .next t ∧ RiscFlags u (t.rreg u n) (s.risc u).c t ∧ OnlyRregFlags u n s t ∧
      (v = 0 → (t.rreg u n).toInt = 0) ∧
      (v ≠ 0 → (2 : Int) ^ ((t.rreg u n).toInt + 22).toNat ≤ v ∧ (v : Int) < 2 ^ ((t.rreg u n).toInt + 23).toNat) := by
  intro v
  obtain ⟨value, flags, only⟩ := writeZN_effect u n (BitVec.ofInt 32 (normiCount (s.rreg u m))) s
  refine ⟨_, rfl, flags, only, fun zero => ?_, fun nonzero => ?_⟩
  · have empty : s.rreg u m = 0 := BitVec.eq_of_toNat_eq zero
    rw [value, empty]
    rfl
  · have hv : s.rreg u m ≠ 0 := fun e => nonzero (congrArg BitVec.toNat e)
    have bound := leadingOne_lt (s.rreg u m)
    have count : (BitVec.ofInt 32 (normiCount (s.rreg u m))).toInt = leadingOne (s.rreg u m) - 22 := by
      rw [normiCount_eq hv]
      exact BitVec.toInt_ofInt_eq_self (by decide) (by omega) (by omega)
    have low : ((leadingOne (s.rreg u m) : Int) - 22 + 22).toNat = leadingOne (s.rreg u m) := by omega
    have high : ((leadingOne (s.rreg u m) : Int) - 22 + 23).toNat = leadingOne (s.rreg u m) + 1 := by omega
    rw [value, count, low, high]
    exact ⟨by exact_mod_cast Nat.pow_log_le_self 2 nonzero,
      by exact_mod_cast (leadingOne_lt_iff hv _).1 (Nat.lt_succ_self _)⟩

/-- Settles O44: each instruction writes one register, whose value is said as a number for the saturations, PACK and
UNPACK, bit by bit for MTOI, MIRROR and the circular buffer, and by the leading one for NORMI. -/
theorem riscSpecials : Obligations.RiscSpecials := by
  refine ⟨fun n s => ?saturations, fun u m n s => ?bits, fun q n s => ?circular,
    fun u m n s => execRNormi_effect u m n s⟩
  case saturations =>
    intro g d top result
    refine ⟨⟨_, rfl, ?sat8⟩, ⟨_, rfl, ?sat16⟩, ⟨_, rfl, ?sat24⟩, ⟨_, rfl, ?sat16s⟩, ⟨_, rfl, ?sat32s⟩⟩
    case sat8 => exact writeZN_toInt .gpu n s (saturate_toInt (by decide) _)
    case sat16 => exact writeZN_toInt .gpu n s (saturate_toInt (by decide) _)
    case sat24 => exact writeZN_toInt .gpu n s (saturate_toInt (by decide) _)
    case sat16s => exact writeZN_toInt .dsp n s (sat16s_toInt _)
    case sat32s =>
      refine writeZN_toInt .dsp n s ?_
      rw [apply_ite BitVec.toInt, apply_ite BitVec.toInt]
      rfl
  case bits =>
    intro v x
    refine ⟨⟨_, rfl, onlyRreg_setRreg .., ?pack⟩, ⟨_, rfl, onlyRreg_setRreg .., ?unpack⟩, ⟨_, rfl, ?mtoi⟩,
      ⟨_, rfl, ?mirror⟩⟩
    case pack =>
      rw [State.rreg_setRreg_self]
      exact pack_toNat _
    case unpack =>
      rw [State.rreg_setRreg_self]
      exact unpack_toNat _
    case mtoi =>
      obtain ⟨bits, flags, only⟩ := writeZN_bits u n s fun k hk => getLsbD_mantissa x hk
      exact ⟨flags, only, bits⟩
    case mirror =>
      obtain ⟨bits, flags, only⟩ := writeZN_bits .dsp n s fun k hk => getLsbD_mirror (s.rreg .dsp n) hk
      exact ⟨flags, only, bits⟩
  case circular =>
    intro v k merged
    have quick : (q32Long q).toNat = k := q32Long_toNat q
    have difference := congrArg (modMerge n · s) (riscSub_eq v (q32Long q))
    refine ⟨⟨_, rfl, ?addqmod⟩, ⟨_, congrArg Host.Outcome.next difference, ?subqmod⟩⟩
    case addqmod => exact quick ▸ modMerge_effect n _ _ s
    case subqmod =>
      rw [quick]
      exact modMerge_effect n _ _ s

end Sys2Proof.Machine
end

section
/-! Exception entry and the interrupt controller. `ExceptionSequence` (O30) and `InterruptController` (O47) follow. -/
namespace Sys2Proof.Machine

/-- Settles O30: every field of the sequence is one of `exceptionTaken_takeException`. -/
theorem exceptionSequence : Obligations.ExceptionSequence := exceptionTaken_takeException

/-! ### The priority tables (R611) -/

/-- Line `k` of a processor comes no later than line `j` in its priority table (R611). -/
def Outranks (p : Role) (k j : Nat) : Prop := if p = .cpu then k ≤ j else j ≤ k

theorem Outranks.antisymm {p : Role} {k j : Nat} (h : Outranks p k j) (g : Outranks p j k) : k = j := by
  unfold Outranks at h g
  split at h
  next cpu => exact Nat.le_antisymm h ((if_pos cpu).mp g)
  next unit => exact Nat.le_antisymm ((if_neg unit).mp g) h

theorem Outranks.refl (p : Role) (k : Nat) : Outranks p k k := by simp [Outranks]

theorem priority_pairwise (p : Role) : (priority p).Pairwise (Outranks p) := by
  rcases p with _ | ⟨_ | _⟩ <;> simp [priority, Outranks]

theorem mem_priority {p : Role} {k : Nat} : k ∈ priority p ↔ k < lineCount p := by
  rcases p with _ | ⟨_ | _⟩ <;> simp only [priority, lineCount, List.mem_cons, List.not_mem_nil, or_false] <;> omega

/-! ### The delivered line -/

/-- Only a line that exists is active (R603). -/
theorem lt_lineCount_of_lineActive {p : Role} {k : Nat} {s : State} (h : s.lineActive p k = true) :
    k < lineCount p := by
  by_contra none
  rw [State.lineActive, line_of_ge (Nat.le_of_not_lt none)] at h
  exact Bool.false_ne_true h

theorem currentVector_eq_none_iff {p : Role} {s : State} :
    currentVector p s = none ↔ ∀ j, s.lineActive p j = false := by
  rw [currentVector, List.find?_eq_none]
  constructor
  · intro inactive j
    rw [← Bool.not_eq_true]
    exact fun active => inactive j (mem_priority.2 (lt_lineCount_of_lineActive active)) active
  · exact fun inactive j _ => ne_true_of_eq_false (inactive j)

theorem currentVector_eq_some {p : Role} {k : Nat} {s : State} (h : currentVector p s = some k) :
    s.lineActive p k = true ∧ ∀ j, s.lineActive p j = true → Outranks p k j := by
  obtain ⟨active, before, after, table, earlier⟩ := List.find?_eq_some_iff_append.1 h
  refine ⟨active, fun j hj => ?_⟩
  have late : j ∉ before := fun hm => by simpa [hj] using earlier j hm
  have listed : j ∈ k :: after :=
    (List.mem_append.1 (table ▸ mem_priority.2 (lt_lineCount_of_lineActive hj))).resolve_left late
  have sorted := priority_pairwise p
  rw [table] at sorted
  rcases List.mem_cons.1 listed with rfl | hafter
  · exact .refl ..
  · exact List.rel_of_pairwise_cons (List.pairwise_append.1 sorted).2.1 hafter

theorem currentVector_eq_some_iff {p : Role} {k : Nat} {s : State} : currentVector p s = some k ↔
    s.lineActive p k = true ∧ ∀ j, s.lineActive p j = true → Outranks p k j := by
  refine ⟨currentVector_eq_some, fun ⟨active, first⟩ => ?_⟩
  cases delivered : currentVector p s with
  | none => exact absurd active (ne_true_of_eq_false (currentVector_eq_none_iff.1 delivered k))
  | some j =>
    obtain ⟨active', first'⟩ := currentVector_eq_some delivered
    rw [(first j active').antisymm (first' k active)]

theorem currentVector_congr {p : Role} {s t : State} (h : ∀ j, t.lineActive p j = s.lineActive p j) :
    currentVector p t = currentVector p s := by
  rw [currentVector, currentVector, funext h]

/-! ### The operations (R600, R603) -/

theorem lineActive_raiseLine (p q : Role) (k j : Nat) (s : State) : (raiseLine p k s).lineActive q j =
    if q = p ∧ j = k ∧ k < lineCount p then (s.line p k).enabled else s.lineActive q j := by
  rw [State.lineActive, raiseLine, State.line_setLine]
  split
  · exact Bool.and_true _
  · rfl

theorem lineActive_enable_raise (p : Role) (k j : Nat) (s : State) :
    (setEnabled p k true (raiseLine p k s)).lineActive p j =
      if j = k ∧ k < lineCount p then true else s.lineActive p j := by
  rw [State.lineActive, setEnabled_enabled, setEnabled_pending, raiseLine_enabled, raiseLine_pending, State.lineActive]
  by_cases h : j = k ∧ k < lineCount p <;> simp [h]

/-- A pending line that is not enabled contributes nothing (R600). -/
theorem currentVector_raise_disabled {p : Role} {k : Nat} {s : State} (h : (s.line p k).enabled = false) :
    currentVector p (raiseLine p k s) = currentVector p s := by
  refine currentVector_congr fun j => ?_
  rw [lineActive_raiseLine]
  split
  next same => rw [same.2.1, State.lineActive, h, Bool.false_and]
  next => rfl

/-- A line raised and then enabled, where no other is active, is the delivered one. -/
theorem currentVector_enable_raise {p : Role} {k : Nat} {s : State} (hk : k < lineCount p)
    (h : currentVector p s = none) : currentVector p (setEnabled p k true (raiseLine p k s)) = some k := by
  have quiet := currentVector_eq_none_iff.1 h
  refine currentVector_eq_some_iff.2 ⟨?_, fun j active => ?_⟩
  · rw [lineActive_enable_raise, if_pos ⟨rfl, hk⟩]
  · rw [lineActive_enable_raise, quiet] at active
    split at active
    next same => exact same.1 ▸ .refl ..
    next => exact nomatch active

/-- Settles O47: the operations by `State.line_setLine`, the delivered line by `currentVector_eq_some_iff`. -/
theorem interruptController : Obligations.InterruptController := by
  refine ⟨fun p q k j b s => ?_, fun p s => ⟨fun k => currentVector_eq_some, currentVector_eq_none_iff⟩⟩
  intro count
  have exists_iff : k < count ↔ k < lineCount p := by rw [lineCount_eq]
  simp only [exists_iff]
  exact ⟨State.line_setLine .., State.line_setLine .., State.line_setLine .., currentVector_raise_disabled,
    currentVector_enable_raise⟩

end Sys2Proof.Machine
end

section
/-! The interrupt checks of the CPU and of a unit. `InterruptDelivery` (O48) follows. -/
namespace Sys2Proof.Machine

/-! ### The CPU (R620) -/

theorem cpuInterruptCheck_delivers {s : State} {k : Nat} (active : s.lineActive .cpu k = true)
    (level : s.cpu.sr.i.toNat < 2) : cpuInterruptCheck s = takeException .interrupt s.cpu.pc s := by
  have unmasked : s.cpu.sr.i < 2 := BitVec.lt_def.2 level
  rw [cpuInterruptCheck]
  split
  next none => exact absurd active (ne_true_of_eq_false (currentVector_eq_none_iff.1 none k))
  next => exact if_pos unmasked

theorem cpuInterruptCheck_masked {s : State} (level : 2 ≤ s.cpu.sr.i.toNat) : cpuInterruptCheck s = s := by
  have masked : ¬ s.cpu.sr.i < 2 := fun h => Nat.not_lt.2 level (BitVec.lt_def.1 h)
  rw [cpuInterruptCheck]
  split
  next => rfl
  next => exact if_neg masked

/-- With no line active, or the mask at 2 or above, nothing is delivered (R620). -/
theorem cpuInterruptCheck_quiet {s : State} (h : (∀ k, s.lineActive .cpu k = false) ∨ 2 ≤ s.cpu.sr.i.toNat) :
    cpuInterruptCheck s = s :=
  h.elim cpuInterruptCheck_inactive cpuInterruptCheck_masked

/-- An entry with its frame in main RAM changes no line. -/
theorem ExceptionTaken.line_eq {e : ExcKind} {pc : Long} {s t : State} (h : ExceptionTaken e pc s t)
    (ram : FrameInRam s) (p : Role) (k : Nat) : t.line p k = s.line p k := by
  rw [h.rest ram]
  rcases p with _ | ⟨_ | _⟩ <;> rfl

/-! ### A unit (R625) -/

section
variable {u : Coproc} {s : State}

theorem riscInterruptCheck_quiet (h : (∀ k, s.lineActive (.risc u) k = false) ∨ (s.risc u).imask = true) :
    riscInterruptCheck u s = s := by
  rw [riscInterruptCheck]
  split
  next => rfl
  next k delivered =>
    refine if_pos (h.resolve_left fun inactive => ?_)
    exact ne_true_of_eq_false (inactive k) (currentVector_eq_some delivered).1

theorem riscInterruptCheck_delivers {k : Nat} (active : s.lineActive (.risc u) k = true)
    (highest : ∀ j, s.lineActive (.risc u) j = true → j ≤ k) (unmasked : (s.risc u).imask = false) :
    riscInterruptCheck u s = (riscEntry u k (s.setRisc u { s.risc u with go := true })).addStepCycles
      (Config.costExc (.risc u) .interrupt) := by
  have delivered : currentVector (.risc u) s = some k :=
    currentVector_eq_some_iff.2 ⟨active, fun j hj => highest j hj⟩
  simp only [riscInterruptCheck, delivered, unmasked]
  rfl

end

/-! ### The entry (R626) -/

/-- The vector of a unit's line: 16 bytes a line from the base of its local memory (R626). -/
def riscVector (u : Coproc) (k : Nat) : Long := BitVec.ofNat 32 (Config.localBase u + 16 * k)

theorem riscVector_toNat (u : Coproc) {k : Nat} (hk : k < 6) :
    (riscVector u k).toNat = (if u = .gpu then 0xF03000 else 0xF1B000) + 16 * k := by
  cases u <;> simp only [riscVector, Config.localBase, BitVec.toNat_ofNat] <;> simp <;> omega

theorem evenAddr_riscVector (u : Coproc) {k : Nat} (hk : k < 6) : evenAddr (riscVector u k) = riscVector u k := by
  apply BitVec.eq_of_toNat_eq
  rw [evenAddr_toNat, riscVector_toNat u hk]
  split <;> omega

/-- The state in which an entry pushes the resume address: the unit awake, IMASK set, R31 of bank 0 moved (R626). -/
def beforePush (u : Coproc) (s : State) : State :=
  s.setRisc u { s.risc u with
    imask := true, go := true, bank0 := (s.risc u).bank0.set 31 ((s.risc u).bank0[31] - 4) }

/-- The state that a delivery to a unit reaches when its push leaves memory `m` (R625, R626). -/
def entered (u : Coproc) (k : Nat) (m : Memory) (s : State) : State :=
  { s.setRisc u { s.risc u with
      imask := true, go := true, pc := evenAddr (riscVector u k),
      bank0 := ((s.risc u).bank0.set 31 ((s.risc u).bank0[31] - 4)).set 30 (riscVector u k) } with
    mem := m, stepCycles := s.stepCycles + Config.costExc (.risc u) .interrupt }

section
variable (u : Coproc) (k : Nat) (m : Memory) (s : State)

theorem beforePush_mem : (beforePush u s).mem = s.mem := State.setRisc_mem ..

theorem entered_risc : (entered u k m s).risc u = { s.risc u with
    imask := true, go := true, pc := evenAddr (riscVector u k),
    bank0 := ((s.risc u).bank0.set 31 ((s.risc u).bank0[31] - 4)).set 30 (riscVector u k) } := by
  cases u <;> rfl

theorem entered_eq : entered u k m s =
    { s.setRisc u { s.risc u with
        imask := true, go := true, pc := ((entered u k m s).risc u).pc,
        bank0 := ((entered u k m s).risc u).bank0 } with
      mem := m, stepCycles := s.stepCycles + Config.costExc (.risc u) .interrupt } := by
  rw [entered_risc]
  rfl

theorem entered_vector : ((entered u k m s).risc u).bank0[30] = riscVector u k := by
  rw [entered_risc]
  exact Vector.getElem_set_self ..

theorem entered_stack : ((entered u k m s).risc u).bank0[31] = (s.risc u).bank0[31] - 4 := by
  rw [entered_risc]
  exact (Vector.getElem_set_ne (by decide) _ (by decide)).trans (Vector.getElem_set_self ..)

theorem entered_low {n : Fin 32} (hn : n.val < 30) :
    ((entered u k m s).risc u).bank0[n] = (s.risc u).bank0[n] := by
  rw [entered_risc]
  exact (Vector.getElem_set_ne (by decide) _ (by omega)).trans (Vector.getElem_set_ne (by decide) _ (by omega))

/-- A delivery whose push stores to memory alone, in one equation. -/
theorem riscEntry_of_push
    (pushed : memWrite (.risc u) .l ((s.risc u).bank0[31] - 4) ((s.risc u).pc - 2) (beforePush u s) =
      (beforePush u s).setMem m) :
    (riscEntry u k (s.setRisc u { s.risc u with go := true })).addStepCycles (Config.costExc (.risc u) .interrupt) =
      entered u k m s := by
  have moved : ((beforePush u s).risc u).bank0[31] = (s.risc u).bank0[31] - 4 := by
    rw [beforePush, State.setRisc_risc]
    exact Vector.getElem_set_self ..
  have resumed : ((beforePush u s).risc u).pc = (s.risc u).pc := by rw [beforePush, State.setRisc_risc]
  have vector : (((beforePush u s).setMem m).setBank0 u 30 (riscVector u k) |>.risc u).bank0[30] = riscVector u k := by
    rw [State.setBank0, State.setRisc_risc]
    exact Vector.getElem_set_self ..
  have entry : ∀ w, memWrite (.risc u) .l ((beforePush u s).risc u).bank0[31] (((beforePush u s).risc u).pc - 2)
        (beforePush u s) = w → riscEntry u k (s.setRisc u { s.risc u with go := true }) =
      (w.setBank0 u 30 (riscVector u k)).setRpc u ((w.setBank0 u 30 (riscVector u k)).risc u).bank0[30] := by
    rintro w rfl
    cases u <;> rfl
  rw [moved, resumed] at entry
  rw [entry _ pushed, vector]
  cases u <;> rfl

end

/-- What a read in byte arrays answers depends on memory alone (R107). -/
theorem memRead_bytes_congr {p : Role} {sz : Size} {a : Long} {s t : State}
    (h : ∀ x ∈ accessBytes p sz a, ReadableByte x) (mem : t.mem = s.mem) :
    (memRead p sz a t).1 = (memRead p sz a s).1 := by
  apply BitVec.eq_of_toNat_eq
  rw [(memRead_bytes h t).1, (memRead_bytes h s).1, mem]

/-- A delivery to a unit whose push lies in writable byte arrays (R625, R626). -/
theorem riscInterruptCheck_enters {u : Coproc} {k : Nat} {s : State} (active : s.lineActive (.risc u) k = true)
    (highest : ∀ j, s.lineActive (.risc u) j = true → j ≤ k) (unmasked : (s.risc u).imask = false)
    (wf : s.mem.wf = true) (stored : ∀ a ∈ accessBytes (.risc u) .l ((s.risc u).bank0[31] - 4), StoredByte a) :
    ∃ m, riscInterruptCheck u s = entered u k m s ∧
      (memRead (.risc u) .l ((s.risc u).bank0[31] - 4) (entered u k m s)).1 = (s.risc u).pc - 2 ∧
      MemSameOutside (accessBytes (.risc u) .l ((s.risc u).bank0[31] - 4)) s (entered u k m s) := by
  have wrote := memWrite_bytes (s := beforePush u s) (beforePush_mem u s ▸ wf) stored ((s.risc u).pc - 2)
  generalize pushed :
    memWrite (.risc u) .l ((s.risc u).bank0[31] - 4) ((s.risc u).pc - 2) (beforePush u s) = w at wrote
  obtain ⟨readBack, onlyMem, outside, -⟩ := wrote
  refine ⟨w.mem, ?_, ?_,
    fun a ha => (outside a ha).trans (congrArg (Memory.read · a) (beforePush_mem u s))⟩
  · exact (riscInterruptCheck_delivers active highest unmasked).trans
      (riscEntry_of_push u k w.mem s (pushed.trans onlyMem))
  · have readable : ∀ a ∈ accessBytes (.risc u) .l ((s.risc u).bank0[31] - 4), ReadableByte a :=
      fun a ha => (stored a ha).readable
    exact (memRead_bytes_congr (s := w) (t := entered u k w.mem s) readable rfl).trans readBack

/-- Settles O48: the CPU's delivery is an exception entry, a unit's the state `entered`. -/
theorem interruptDelivery : Obligations.InterruptDelivery := by
  refine ⟨fun s => ⟨fun ⟨⟨k, active⟩, level⟩ => ?cpu, cpuInterruptCheck_quiet⟩,
    fun u s => ⟨riscInterruptCheck_quiet, fun k active highest unmasked wf stored => ?unit⟩⟩
  case cpu =>
    rw [cpuInterruptCheck_delivers active level]
    have taken := exceptionTaken_takeException .interrupt s.cpu.pc s
    obtain ⟨-, -, -, mask⟩ := taken.sr
    exact ⟨taken, mask, taken.line_eq⟩
  case unit =>
    obtain ⟨m, delivered, pushed, outside⟩ := riscInterruptCheck_enters active highest unmasked wf stored
    have line : k < 6 := (lt_lineCount_of_lineActive active).trans_le (by cases u <;> decide)
    have pc : ((entered u k m s).risc u).pc = riscVector u k := by
      rw [entered_risc]
      exact evenAddr_riscVector u line
    rw [delivered]
    refine ⟨by rw [entered_risc], by rw [entered_risc], ?_, (entered_vector ..).trans pc.symm, entered_stack ..,
      pushed, fun n => entered_low u k m s, by rw [entered_risc], entered_eq .., outside⟩
    rw [pc]
    exact riscVector_toNat u line

end Sys2Proof.Machine
end

section
/-! A step of a unit that is picked, and idle steps. `RiscStepRunsInstruction` (O49) and `IdleStep` (O51) follow. -/
namespace Sys2Proof.Machine

/-! ### The instruction of a unit's step (R651) -/

/-- The state in which a unit's instruction runs: its word fetched, `pc` past it (R108). -/
theorem fetch16_begun (u : Coproc) (s : State) : (fetch16 (.risc u) (beginStep s)).2 =
    { s.setRpc u ((s.risc u).pc + 2) with fetched := [fetchWordAt (s.risc u).pc s], stepCycles := 0 } := by
  cases u <;> rfl

theorem fetch16_begun_word (u : Coproc) (s : State) :
    (fetch16 (.risc u) (beginStep s)).1 = fetchWordAt (s.risc u).pc s := by
  cases u <;> rfl

theorem beginStep_risc (s : State) (u : Coproc) : (beginStep s).risc u = s.risc u := by cases u <;> rfl

theorem riscStep_instruction {u : Coproc} {s : State} {i : Instr} (go : (s.risc u).go = true)
    (decoded : decode (.risc u) (fetchWordAt (s.risc u).pc s) = .ok i) :
    riscStep u s = finish (.risc u) (riscTail u) (exec i (fetch16 (.risc u) (beginStep s)).2) := by
  simp only [riscStep, beginStep_risc, go, if_true, riscInstruction, fetch16_begun_word, decoded]

/-- Settles O49: the unit's step is its instruction's outcome with `riscTail` and `endStep`. -/
theorem riscStepRunsInstruction : Obligations.RiscStepRunsInstruction := by
  intro u s i next go b decoded begun
  have awake : (b.risc u).go = true := (congrArg Risc.go (afterLines_risc ..)).trans go
  have stepped := next.step_eq.trans (riscStep_instruction awake decoded)
  rw [fetch16_begun] at stepped
  constructor
  · intro r refused
    rw [stepped, refused]
    rfl
  · intro t runs
    rw [runs] at stepped
    refine ⟨_, stepped, ?_⟩
    cases u
    · exact ⟨rfl, fun _ => rfl, nofun, rfl⟩
    · exact ⟨rfl, nofun, fun _ => rfl, rfl⟩

/-! ### Idle steps (R652) -/

/-- The state at the interrupt check of an idle step: its cost is consumed, nothing is fetched (R652). -/
theorem beginStep_addStepCycles (s : State) (c : Nat) :
    (beginStep s).addStepCycles c = { s with fetched := [], stepCycles := c } :=
  congrArg (fun n => { s with fetched := [], stepCycles := n }) (Nat.zero_add c)

theorem cpuStep_stopped {s : State} (stopped : s.cpu.run = .stopped) : cpuStep s =
    .next (endStep .cpu (cpuInterruptCheck { s with fetched := [], stepCycles := s.params.idleCpu })) := by
  have begun : (beginStep s).cpu.run = .stopped := stopped
  rw [← beginStep_addStepCycles]
  simp only [cpuStep, begun]
  rfl

theorem riscStep_sleeping {u : Coproc} {s : State} (asleep : (s.risc u).go = false) : riscStep u s =
    .next (endStep (.risc u)
      (riscInterruptCheck u { s with fetched := [], stepCycles := s.params.idle (.risc u) })) := by
  rw [← beginStep_addStepCycles]
  simp only [riscStep, beginStep_risc, asleep]
  rfl

/-- What the end of a unit's step leaves (R651, R655). -/
theorem endStep_risc (u : Coproc) (e : State) :
    let w := endStep (.risc u) e
    (w.risc u).cycles = (e.risc u).cycles + e.stepCycles ∧
    w.time (.risc u) = e.time (.risc u) + e.stepCycles * e.params.div (.risc u) ∧
    w = { (e.setRisc u { e.risc u with cycles := (w.risc u).cycles }).setTime (.risc u) (w.time (.risc u)) with
          fetched := [], stepCycles := 0 } := by
  cases u <;> exact ⟨rfl, rfl, rfl⟩

/-- Settles O51: the step without a delivery is the one with it, since the check then leaves the state. -/
theorem idleStep : Obligations.IdleStep := by
  refine fun u s => ⟨fun next stopped => ?cpu, fun next asleep => ?unit⟩
  case cpu =>
    intro b
    have begun : b.cpu.run = .stopped := (congrArg Cpu.run (afterLines_cpu ..)).trans stopped
    have stepped := next.step_eq.trans (cpuStep_stopped begun)
    refine ⟨stepped, fun quiet => ?_⟩
    have left := cpuInterruptCheck_quiet (s := { b with fetched := [], stepCycles := b.params.idleCpu }) quiet
    exact stepped.trans (congrArg (fun e => Host.Outcome.next (endStep .cpu e)) left)
  case unit =>
    intro b
    have still : (b.risc u).go = false := (congrArg Risc.go (afterLines_risc ..)).trans asleep
    have stepped := next.step_eq.trans (riscStep_sleeping still)
    refine ⟨_, stepped, endStep_risc .., fun quiet => ?_⟩
    have same : Same b { b with fetched := [], stepCycles := b.params.idle (.risc u) } := same_patch ..
    rw [riscInterruptCheck_quiet (s := { b with fetched := [], stepCycles := b.params.idle (.risc u) })]
    · cases u <;> exact ⟨rfl, rfl, rfl⟩
    · rw [same.risc]
      exact quiet.imp_left fun inactive k => inactive k

end Sys2Proof.Machine
end

section
/-! Line events, the end of a frame and a pause. `LineAndFrameEvents` (O52) follows. -/
namespace Sys2Proof.Machine

/-! ### Line events with the default devices (R656) -/

/-- `s` after the line events up to `n`: the VIDEO line is raised when VI's line is one of them. -/
def videoRaised (n : Nat) (s : State) : State :=
  if s.sched.line < s.vi.toNat ∧ s.vi.toNat ≤ n then raiseLine .cpu 0 s else s

theorem videoRaised_passed {n : Nat} {s : State} (h : s.sched.line < s.vi.toNat ∧ s.vi.toNat ≤ n) :
    videoRaised n s = raiseLine .cpu 0 s := if_pos h

theorem videoRaised_not_passed {n : Nat} {s : State} (h : ¬ (s.sched.line < s.vi.toNat ∧ s.vi.toNat ≤ n)) :
    videoRaised n s = s := if_neg h

theorem videoRaised_self (s : State) : videoRaised s.sched.line s = s :=
  videoRaised_not_passed fun h => Nat.not_lt.2 h.2 h.1

theorem videoRaised_onlyCpuLines (n : Nat) (s : State) : OnlyCpuLines s (videoRaised n s) := by
  unfold videoRaised
  split
  · exact onlyCpuLines_setLine ..
  · exact .refl s

theorem videoRaised_line (n : Nat) (s : State) (k : Nat) : (videoRaised n s).line .cpu k =
    if k = 0 ∧ s.sched.line < s.vi.toNat ∧ s.vi.toNat ≤ n then { s.line .cpu k with pending := true }
    else s.line .cpu k := by
  unfold videoRaised
  by_cases h : s.sched.line < s.vi.toNat ∧ s.vi.toNat ≤ n
  · rw [if_pos h, raiseLine, State.line_setLine]
    by_cases hk : k = 0 <;> simp [hk, h, lineCount]
  · rw [if_neg h, if_neg fun e => h e.2]

theorem lineEvent_default {s : State} (h : s.defaultDevices) (k : Nat) :
    lineEvent k s = if k = s.vi.toNat then raiseLine .cpu 0 s else s := by
  unfold lineEvent
  split
  · exact extCall_default _ ((setLine_readKeeps ..).defaultDevices h)
  · exact extCall_default _ h

/-- One line event, and then those up to `n`, are the line events up to `n`. -/
theorem videoRaised_lineEvent {s : State} (h : s.defaultDevices) {n : Nat} (hn : s.sched.line + 1 ≤ n) :
    (videoRaised n (lineEvent (s.sched.line + 1) (s.atLine (s.sched.line + 1)))).atLine n =
      (videoRaised n s).atLine n := by
  rw [lineEvent_default (s := s.atLine (s.sched.line + 1)) h]
  by_cases now : s.sched.line + 1 = s.vi.toNat
  · have fired : ¬ (s.sched.line + 1 < s.vi.toNat ∧ s.vi.toNat ≤ n) := by omega
    rw [if_pos (by exact now), videoRaised_not_passed (by exact fired), videoRaised_passed (by omega)]
    rfl
  · rw [if_neg (by exact now)]
    by_cases passed : s.sched.line < s.vi.toNat ∧ s.vi.toNat ≤ n
    · have later : s.sched.line + 1 < s.vi.toNat ∧ s.vi.toNat ≤ n := by omega
      rw [videoRaised_passed passed, videoRaised_passed (by exact later)]
      rfl
    · have never : ¬ (s.sched.line + 1 < s.vi.toNat ∧ s.vi.toNat ≤ n) := by omega
      rw [videoRaised_not_passed passed, videoRaised_not_passed (by exact never)]
      rfl

/-- `n` is the line to which the events that are due at time `t` go, `left` of them at the most (R655). -/
structure FiredTo (left t : Nat) (s : State) (n : Nat) : Prop where
  from_le : s.sched.line ≤ n
  le_left : n ≤ s.sched.line + left
  due : ∀ k, s.sched.line < k → k ≤ n → lineTime s.params k ≤ t
  undue : n < s.sched.line + left → n < s.params.lines → t < lineTime s.params (n + 1)

theorem fireDue_default {s : State} (h : s.defaultDevices) (left t : Nat) :
    ∃ n, FiredTo left t s n ∧ fireDue left t s = (videoRaised n s).atLine n := by
  induction left generalizing s with
  | zero =>
    refine ⟨s.sched.line, ⟨le_rfl, le_rfl, by omega, by omega⟩, ?_⟩
    rw [videoRaised_self]
    rfl
  | succ left ih =>
    rw [fireDue]
    split
    next isDue =>
      have kept := lineEvent_readKeeps (s.sched.line + 1) (s.atLine (s.sched.line + 1))
      have line : (lineEvent (s.sched.line + 1) (s.atLine (s.sched.line + 1))).sched.line = s.sched.line + 1 :=
        congrArg Sched.line kept.sched
      have params : (lineEvent (s.sched.line + 1) (s.atLine (s.sched.line + 1))).params = s.params := kept.params
      obtain ⟨n, ⟨from_le, le_left, due, undue⟩, fired⟩ := ih (kept.defaultDevices h)
      rw [line] at from_le le_left due undue
      rw [params] at due undue
      refine ⟨n, ⟨by omega, by omega, fun k after upTo => ?_, fun room => undue (by omega)⟩, ?_⟩
      · rcases Nat.lt_or_ge (s.sched.line + 1) k with later | now
        · exact due k later upTo
        · obtain rfl : k = s.sched.line + 1 := by omega
          exact isDue.2
      · exact fired.trans (videoRaised_lineEvent h from_le)
    next notDue =>
      refine ⟨s.sched.line, ⟨le_rfl, by omega, by omega, fun _ more => ?_⟩, ?_⟩
      · exact Nat.lt_of_not_le fun isDue => notDue ⟨more, isDue⟩
      · rw [videoRaised_self]
        rfl

/-! ### The end of a frame (R655, R656) -/

theorem lineTime_le_frameBudget {m : Params} {k : Nat} (hk : k ≤ m.lines) : lineTime m k ≤ m.frameBudget :=
  Nat.div_le_of_le_mul (Nat.mul_le_mul_right _ hk)

/-- At the end of a frame every line event has fired. -/
theorem FiredTo.all {t n : Nat} {s : State} (h : FiredTo (s.params.lines - s.sched.line) t s n)
    (bound : s.sched.line ≤ s.params.lines) (ended : s.params.frameBudget ≤ t) : n = s.params.lines := by
  obtain ⟨-, le_left, -, undue⟩ := h
  refine le_antisymm (by omega) (Nat.le_of_not_lt fun more => ?_)
  have later := undue (by omega) more
  exact Nat.lt_irrefl _ ((later.trans_le (lineTime_le_frameBudget more)).trans_le ended)

theorem endFrame_default {s : State} (h : s.defaultDevices) : endFrame s =
    { s with sched :=
        { s.sched with
          tCpu := carryTime s .cpu, tGpu := carryTime s (.risc .gpu), tDsp := carryTime s (.risc .dsp), line := 0,
          frameClock := s.sched.frameClock + s.params.frameBudget } } := by
  simp only [endFrame, extCall_default _ h]

theorem carryTime_afterLines (p q : Role) (s : State) : carryTime (afterLines p s) q = carryTime s q := by
  simp only [carryTime, afterLines_eligible, afterLines_time, afterLines_params]

/-- Settles O52: the line events by `fireDue_default`, the two other ends of a turn by `turn_eq`. -/
theorem lineAndFrameEvents : Obligations.LineAndFrameEvents := by
  refine ⟨fun s on => ?picked, fun s t h bound => ?lines, fun p s on picked ended h bound => ?frame,
    fun p s on picked inFrame stop => ?pause⟩
  case picked =>
    obtain ⟨p, picked⟩ := exists_picked on
    exact ⟨p, picked, fun q other => other.unique picked⟩
  case lines =>
    obtain ⟨n, ⟨from_le, le_left, due, undue⟩, fired⟩ := fireDue_default h (s.params.lines - s.sched.line) t
    intro e
    have line : e.sched.line = n := congrArg (fun x => x.sched.line) fired
    have lines : ∀ k, e.line .cpu k = (videoRaised n s).line .cpu k := fun k =>
      show State.line (fireDue _ t s) .cpu k = _ from fired ▸ rfl
    simp only [line, lines, videoRaised_line]
    refine ⟨from_le, by omega, fun more => undue (by omega) more, due, ?_, fun k => ?_, ?_, fun k hk => ?_⟩
    · by_cases isVi : s.sched.line < s.vi.toNat ∧ s.vi.toNat ≤ n <;> simp [isVi]
    · rw [apply_ite Line.enabled, ite_self]
    · have only := videoRaised_onlyCpuLines n s
      rw [show e = (videoRaised n s).atLine n from fired, only]
      rfl
    · exact if_neg fun zero => hk zero.1
  case frame =>
    intro e
    obtain ⟨n, firedTo, fired⟩ := fireDue_default h (s.params.lines - s.sched.line) (s.time p)
    have line : e.sched.line = n := congrArg (fun x => x.sched.line) fired
    have devices : e.defaultDevices := (congrArg Params.device (afterLines_params p s)).trans h
    have stepped : step s = .next (endFrame e) := by rw [step, turn_eq on picked, if_pos ended]
    have least : s.params.frameBudget ≤ s.time .cpu :=
      ended.trans (picked.time_eq_now ▸ now_le (p := .cpu) on)
    have cpuOn : eligible s .cpu = true := eligible_iff.2 on
    rw [endFrame_default devices] at stepped
    have carried := fun q => carryTime_afterLines p q s
    refine ⟨line.trans (firedTo.all bound ended), _, stepped, ?_, rfl, ?_, fun u => ?_, ?_, rfl⟩
    · exact congrArg₂ _ (afterLines_frameClock ..) (congrArg _ (afterLines_params ..))
    · refine (congrArg (· + s.params.frameBudget) (carried .cpu)).trans ?_
      rw [carryTime, if_pos cpuOn]
      exact Nat.sub_add_cancel least
    · cases u <;> exact carried _
    · exact afterLines_stopRequested ..
  case pause =>
    rw [step, turn_eq on picked, if_neg (Nat.not_le.2 inFrame), if_pos stop]

end Sys2Proof.Machine
end

section
/-! The load of an image. `LoadImage` (O59) follows. -/
namespace Sys2Proof.Machine

/-- A byte after a list of bytes was stored from `a` on: the list's, or as it was (R107). -/
theorem Memory.read_writeList {m : Memory} (h : m.wf = true) (a : Nat) (l : List Byte) (x : Nat) :
    (m.writeList a l).read x =
      if h : a ≤ x ∧ x < a + l.length then l[x - a]'(by omega) else m.read x := by
  induction l generalizing m a with
  | nil =>
    have empty : ¬ (a ≤ x ∧ x < a + ([] : List Byte).length) := fun h => Nat.not_lt.2 h.1 h.2
    rw [dif_neg empty]
    rfl
  | cons b rest ih =>
    rw [Memory.writeList, ih (Memory.wf_write h a b), Memory.read_write h]
    have count : (b :: rest).length = rest.length + 1 := List.length_cons
    rcases Nat.lt_trichotomy x a with below | rfl | above
    · rw [dif_neg (by omega), dif_neg (by omega), if_neg (by omega)]
    · rw [dif_neg (by omega), dif_pos (by omega), if_pos rfl]
      simp only [Nat.sub_self, List.getElem_cons_zero]
    · obtain ⟨j, rfl⟩ : ∃ j, x = a + 1 + j := ⟨x - (a + 1), by omega⟩
      have inner : a + 1 + j - (a + 1) = j := by omega
      have outer : a + 1 + j - a = j + 1 := by omega
      by_cases inside : j < rest.length
      · rw [dif_pos (by omega), dif_pos (by omega)]
        simp only [inner, outer, List.getElem_cons_succ]
      · rw [dif_neg (by omega), dif_neg (by omega), if_neg (by omega)]

section
variable (image : List Byte) (n : RegionName) {s : State}

theorem loadImage_device (off : s.cpu.run = .off) (device : (region n).backing ≠ .bytes) :
    loadImage image n s = .error .configurationError := by
  rw [loadImage, if_neg (not_not_intro off)]
  split
  next bytes => exact absurd bytes device
  next => rfl

theorem loadImage_bytes (off : s.cpu.run = .off) (bytes : (region n).backing = .bytes) :
    loadImage image n s =
      if (region n).stop - (region n).start < image.length then .error .imageTooLarge
      else .ok (s.setMem (s.mem.writeList (region n).start image)) := by
  rw [loadImage, if_neg (not_not_intro off)]
  simp only [bytes]

end

theorem region_start_le_stop (n : RegionName) : (region n).start ≤ (region n).stop := by
  cases n <;> decide

end Sys2Proof.Machine

namespace Sys2Proof
open Machine

/-- Settles O59: the image's bytes by `Memory.read_writeList`. -/
theorem loadImage : Obligations.LoadImage := by
  intro image n s wf g
  have ordered : g.start ≤ g.stop := region_start_le_stop n
  refine ⟨fun on => if_pos on, loadImage_device image n, fun off bytes large => ?_, fun off bytes fits => ?_⟩
  · rw [loadImage_bytes image n off bytes, if_pos (show g.stop - g.start < image.length by omega)]
  · rw [loadImage_bytes image n off bytes, if_neg (show ¬ g.stop - g.start < image.length by omega)]
    exact ⟨_, rfl, rfl, fun a => Memory.read_writeList wf g.start image a⟩

end Sys2Proof
end
